-- ==== Sys2Proof/Word.lean ====
section
/-! DEFINITION. The words of the block: `Byte` and `u16` of 00_scope.md R13. -/

namespace Sys2Proof

/-- An unsigned 8-bit value (R13). -/
abbrev Byte := BitVec 8

/-- `u16`, an unsigned 16-bit value (R13). -/
abbrev U16 := BitVec 16

end Sys2Proof
end

