-- ==== Sys2Proof/Machine/Adapter.lean ====
section
/-! DEFINITION. The adapter as the block assumes it: the state the four commands act on (40_command_batch.md
R142 to R146) and the adapter primitives of 10_state.md R44 set. It is an agent of its own (R30(3)), not part of
the block's registers (R31); the block can read none of it back (R47). Log entry 9. -/

namespace Sys2Proof.Machine

/-- The last clock setting the adapter was asked for (R47(3), R164): its default clocking, the divisor of a
SET_DIVISOR command (R146), or the value an `AdpClockSet` forwarded (R160). -/
inductive AdapterClock where
  | default
  | divisor (div : U16)
  | native (v : Int)
deriving DecidableEq, Repr, Inhabited

/-- One pin event of an executed command, in the order the adapter performs them. -/
inductive PinEvent where
  /-- SET_PINS: the pins are set to `value` with directions `dir` and held for one command time slice (R142). -/
  | slice (value dir : Byte)
  /-- One bit of SHIFT_OUT_BITS: the data output pin takes `bit` on a falling SCL edge, then one clock pulse (R143). -/
  | clockOut (bit : Bool)
  /-- One bit of SHIFT_IN_BITS: one clock pulse, `bit` sampled from the data input pin on the rising SCL edge (R144). -/
  | clockIn (bit : Bool)
deriving DecidableEq, Repr

/-- What the block's rules assume the adapter holds. -/
structure Adapter where
  /-- I2C mode entered (`AdpEnterI2C`) and not reset since (`AdpResetDefault`), R44. -/
  i2cMode : Bool
  /-- The clock setting last asked for, R47(3). -/
  clock : AdapterClock
  /-- `pinDir` of R142: bit i = 1 makes pin i an output. -/
  pinDir : Byte
  /-- `pinOut` of R142: bit i is the level driven on pin i where it is an output. -/
  pinOut : Byte
  /-- The transport's inbound stream (R73): response bytes of executed SHIFT_IN_BITS commands (R145). -/
  inStream : List Byte
  /-- The pin events of the executed commands, oldest first. -/
  trace : List PinEvent
deriving DecidableEq, Repr, Inhabited

end Sys2Proof.Machine
end

