-- ==== Sys2Proof/Config.lean ====
section
/-! DEFINITION. What is fixed for a block instance and is not state (10_state.md R49): the parameters of
00_scope.md R10 and R11 at the values the spec takes (log entry 18), the codes of 30_encoding.md, and the values the
spec leaves open, each an uninterpreted constant. -/

namespace Sys2Proof.Config

/-! ## Parameters fixed by the source (R10) -/

/-- Lowest frequency SET_SPEED accepts, in Hz. -/
def fMin : Int := 100
/-- Highest frequency SET_SPEED accepts, in Hz. -/
def fMax : Int := 10000000
/-- Reference of the automatic divisor, in Hz (R165). -/
def masterClock : Nat := 30000000
/-- Target of the automatic divisor at bus setup, in Hz (R165). -/
def defaultFreq : Nat := 400000
/-- Repetitions of each level command (R181, R346). -/
def minHoldRepeats : Nat := 4
/-- Width of the slave address (R71). -/
def addrBits : Nat := 7

/-! ## Parameters the source leaves open, at the value the spec takes (R11; log entry 18) -/

/-- Number of adapter pins, D4. The pin masks are `Byte`s because this is 8. -/
def portWidth : Nat := 8
/-- The clock pin, D4. -/
def sclBit : Nat := 0
/-- The data output pin, D4. -/
def sdaOutBit : Nat := 1
/-- The data input pin, D4. -/
def sdaInBit : Nat := 2
/-- The upper pins 7..3, D4. -/
def upperMask : Byte := 0xF8#8
/-- Value bits of the upper pins in every level command, D6. -/
def upperValue : Byte := 0x00#8
/-- Directions of the upper pins as found at OPEN, D22. -/
def initUpperDir : Byte := 0x00#8
/-- Whether OPEN supports pull-up mode, D14. -/
def pullUpSupported : Bool := false

/-! ## Request codes (R101, R107) -/

def codeOpen : Byte := 0x01#8
def codeSetSpeed : Byte := 0x02#8
def codeTransact : Byte := 0x03#8
def codeClose : Byte := 0x04#8
def codeClockPin : Byte := 0x05#8
def codeDataPin : Byte := 0x06#8

/-! ## Command opcodes (R110 to R113, D7) -/

def opSetPins : Byte := 0x80#8
def opShiftOutBits : Byte := 0x13#8
def opShiftInBits : Byte := 0x22#8
def opSetDivisor : Byte := 0x86#8

/-! ## Open values: constants with no value anyone can see

The first argument of each is the identity of the instance it is drawn for (`State.ident`), since no rule relates two
instances (R86; log entry 33). -/

/-- `LOCK_ORDER` (R12, D20): the choice among waiting requests, one fresh value for each choice (log entry 6). -/
opaque lockOrder (ident draw : Nat) : Nat
/-- `ADAPTER_CLOCK_SET` (R12, R164, D31): the divisor the adapter makes of the value SET_SPEED forwards
(log entry 26). -/
opaque adapterClockSet (ident : Nat) (v : Int) : U16
/-- The divisor of the adapter's default (non-I2C) clocking (R256), which the spec does not give (log entry 14). -/
opaque adapterDefaultDivisor (ident : Nat) : U16
/-- The level sampled from the data input pin for bit `k` of a shift-in: any value (I20; log entry 12). -/
opaque sampledBit (ident draw k : Nat) : Bool
/-- Bits [7:n] of a response byte: any value (R118, I11; log entry 12). -/
opaque responseFill (ident draw : Nat) : Byte
/-- The output levels of the adapter's default configuration, which the spec does not give: any value, the same
whenever the default is restored (R81; log entry 14). -/
opaque defaultPinOut (ident : Nat) : Byte
/-- What a failed interaction leaves where the spec does not keep the adapter as it was: any value (I16; log entry
13). -/
opaque adapterAfterFailure (ident draw : Nat) : Sys2Proof.Machine.Adapter

end Sys2Proof.Config
end

