-- ==== Sys2Proof/Syntax.lean ====
section
/-! DEFINITION. The instructions: one constructor for each row of spec/opcode_table.json. The two streams of
30_encoding.md R100 share the type: requests the block accepts, and commands it emits in a batch. -/

namespace Sys2Proof

/-- The six requests (R100(1), operands R102 to R104) and the four commands (R100(2), operands R140). Counts and
frequencies are unbounded, as 10_state.md R42 and R45 have them; `WellFormed` says which terms have a byte form. -/
inductive Instr where
  /-- OPEN 0x01: `channel`, `pullUp` (R102, R252). -/
  | openBus (channel : Nat) (pullUp : Bool)
  /-- SET_SPEED 0x02: `freq` in hertz (R103, R160). -/
  | setSpeed (freq : Int)
  /-- TRANSACT 0x03: `addr`, the write payload `w`, and the length `rlen` of the caller's read buffer (R104, R230). -/
  | transact (addr : U16) (w : List Byte) (rlen : Nat)
  /-- CLOSE 0x04 (R256). -/
  | closeBus
  /-- CLOCK_PIN 0x05 (R260). -/
  | clockPin
  /-- DATA_PIN 0x06 (R261). -/
  | dataPin
  /-- SET_PINS 0x80: `SetPins(value, dir)` (R110, R142). -/
  | setPins (value dir : Byte)
  /-- SHIFT_OUT_BITS 0x13: `ShiftOut(n, data)` with `n` in 1..8 (R111, R143). -/
  | shiftOut (n : Nat) (data : Byte)
  /-- SHIFT_IN_BITS 0x22: `ShiftIn(n)` with `n` in 1..8 (R112, R144). -/
  | shiftIn (n : Nat)
  /-- SET_DIVISOR 0x86: `SetDivisor(div)` (R113, R146). -/
  | setDivisor (div : U16)
deriving DecidableEq, Repr

/-- The requests: what the request port accepts (R100(1)). -/
def Instr.isRequest : Instr → Bool
  | .openBus _ _ => true
  | .setSpeed _ => true
  | .transact _ _ _ => true
  | .closeBus => true
  | .clockPin => true
  | .dataPin => true
  | .setPins _ _ => false
  | .shiftOut _ _ => false
  | .shiftIn _ => false
  | .setDivisor _ => false

/-- The commands: what a batch is made of (R100(2), R140). -/
def Instr.isCommand (i : Instr) : Bool := !i.isRequest

end Sys2Proof
end

