-- ==== Sys2Proof/WellFormed.lean ====
section
/-! DEFINITION. Which terms of `Instr` have a byte form: the operand ranges of 30_encoding.md R101 to R104 and
R110 to R113. -/

namespace Sys2Proof

/-- The operand fits the field its encoding gives it. OPEN's channel is one byte (R102), SET_SPEED's frequency a
signed 64-bit integer (R103), the lengths of TRANSACT u32 (R104), the bit count of a shift 1 to 8 (R111, R112). An
address above 0x7F has a byte form: it is refused when the request is admitted (R105), not by the encoding. -/
def Instr.WellFormed : Instr → Bool
  | .openBus channel _ => decide (channel < 2 ^ 8)
  | .setSpeed freq => decide (-2 ^ 63 ≤ freq) && decide (freq < 2 ^ 63)
  | .transact _ w rlen => decide (w.length < 2 ^ 32) && decide (rlen < 2 ^ 32)
  | .closeBus => true
  | .clockPin => true
  | .dataPin => true
  | .setPins _ _ => true
  | .shiftOut n _ => decide (1 ≤ n) && decide (n ≤ 8)
  | .shiftIn n => decide (1 ≤ n) && decide (n ≤ 8)
  | .setDivisor _ => true

end Sys2Proof
end

