-- ==== Sys2Proof/Decode.lean ====
section
/-! DEFINITION. Decoding and encoding (30_encoding.md R100 to R121): total on any bytes, every rejection named. -/

namespace Sys2Proof

/-! ## Byte order: little-endian integers (R101) -/

/-- `v` in `k` bytes, the least significant first. -/
def leBytes : Nat → Nat → List Byte
  | 0, _ => []
  | k + 1, v => BitVec.ofNat 8 v :: leBytes k (v / 256)

/-- The number whose little-endian bytes are given. -/
def leNat : List Byte → Nat
  | [] => 0
  | b :: bs => b.toNat + 256 * leNat bs

/-- A 64-bit field read as two's complement (R103). -/
def signed64 (v : Nat) : Int := if v < 2 ^ 63 then (v : Int) else (v : Int) - 2 ^ 64

/-- The 64-bit field of an integer in two's complement (R103). -/
def field64 (f : Int) : Nat := (f % 2 ^ 64).toNat

/-- The first `n` bytes and the rest, or nothing when there are fewer. -/
def splitBytes (n : Nat) (bs : List Byte) : Option (List Byte × List Byte) :=
  if n ≤ bs.length then some (bs.take n, bs.drop n) else none

/-! ## Decoding -/

/-- Why bytes are no instruction. -/
inductive Reject where
  /-- Byte 0 selects no request and no command (R108, R117). -/
  | reservedCode
  /-- Reserved bits are not all zero: OPEN's `flags[7:1]` (R102), bits 7:3 of a shift count (R111, R112). -/
  | reservedBits
  /-- Fewer bytes than the instruction has (R119). -/
  | truncated
deriving DecidableEq, Repr

/-- What the decoder reads: an instruction and the bytes after it, or a named rejection. -/
inductive Decoded where
  | instr (i : Instr) (rest : List Byte)
  | rejected (why : Reject)
deriving DecidableEq, Repr

/-- OPEN after its code: `channel`, then `flags` whose bits 7:1 must be zero (R101, R102). -/
def decodeOpen : List Byte → Decoded
  | channel :: flags :: rest =>
    if flags &&& 0xFE#8 = 0#8 then .instr (.openBus channel.toNat (flags.getLsbD 0)) rest
    else .rejected .reservedBits
  | _ => .rejected .truncated

/-- SET_SPEED after its code: 8 bytes, two's complement (R103). -/
def decodeSetSpeed (bs : List Byte) : Decoded :=
  match splitBytes 8 bs with
  | some (f, rest) => .instr (.setSpeed (signed64 (leNat f))) rest
  | none => .rejected .truncated

/-- TRANSACT after its code: `addr` (2 bytes), `wlen` (4), `w` (`wlen`), `rlen` (4) (R104). -/
def decodeTransact (bs : List Byte) : Decoded :=
  match splitBytes 2 bs with
  | none => .rejected .truncated
  | some (addr, bs1) =>
    match splitBytes 4 bs1 with
    | none => .rejected .truncated
    | some (wlen, bs2) =>
      match splitBytes (leNat wlen) bs2 with
      | none => .rejected .truncated
      | some (w, bs3) =>
        match splitBytes 4 bs3 with
        | none => .rejected .truncated
        | some (rlen, rest) => .instr (.transact (BitVec.ofNat 16 (leNat addr)) w (leNat rlen)) rest

/-- SET_PINS after its opcode: `value`, `dir` (R110). -/
def decodeSetPins : List Byte → Decoded
  | value :: dir :: rest => .instr (.setPins value dir) rest
  | _ => .rejected .truncated

/-- The bit count of a shift: `byte1[2:0] + 1`, with bits 7:3 zero (R111, R112, R116). -/
def decodeCount (b : Byte) : Option Nat :=
  if b &&& 0xF8#8 = 0#8 then some (b.toNat + 1) else none

/-- SHIFT_OUT_BITS after its opcode: count byte, `data` (R111). -/
def decodeShiftOut : List Byte → Decoded
  | count :: data :: rest =>
    match decodeCount count with
    | some n => .instr (.shiftOut n data) rest
    | none => .rejected .reservedBits
  | _ => .rejected .truncated

/-- SHIFT_IN_BITS after its opcode: count byte (R112). -/
def decodeShiftIn : List Byte → Decoded
  | count :: rest =>
    match decodeCount count with
    | some n => .instr (.shiftIn n) rest
    | none => .rejected .reservedBits
  | [] => .rejected .truncated

/-- SET_DIVISOR after its opcode: `div`, low byte first (R113, R116). -/
def decodeSetDivisor : List Byte → Decoded
  | lo :: hi :: rest =>
    .instr (.setDivisor (lo.setWidth 16 ||| (hi.setWidth 16 <<< 8))) rest
  | _ => .rejected .truncated

/-- The instruction at the head of a byte string, by byte 0 (R100, R107, R115), and the bytes after it. -/
def decode : List Byte → Decoded
  | [] => .rejected .truncated
  | c :: bs =>
    if c = Config.codeOpen then decodeOpen bs
    else if c = Config.codeSetSpeed then decodeSetSpeed bs
    else if c = Config.codeTransact then decodeTransact bs
    else if c = Config.codeClose then .instr .closeBus bs
    else if c = Config.codeClockPin then .instr .clockPin bs
    else if c = Config.codeDataPin then .instr .dataPin bs
    else if c = Config.opSetPins then decodeSetPins bs
    else if c = Config.opShiftOutBits then decodeShiftOut bs
    else if c = Config.opShiftInBits then decodeShiftIn bs
    else if c = Config.opSetDivisor then decodeSetDivisor bs
    else .rejected .reservedCode

/-- The request a frame of the request port holds: the frame is one request and nothing more (R101, R119). A command
opcode is a reserved request code (R108). Log entry 8. -/
def requestOf (frame : List Byte) : Option Instr :=
  match decode frame with
  | .instr i [] => if i.isRequest then some i else none
  | _ => none

/-- The command at the head of a serialized batch and the bytes after it (R115). A request code is no command
(R117). -/
def commandAt (stream : List Byte) : Option (Instr × List Byte) :=
  match decode stream with
  | .instr i rest => if i.isCommand then some (i, rest) else none
  | _ => none

/-- The commands of a serialized batch, one after the other (R115); `fuel` bounds how many. -/
def commandsWithin : Nat → List Byte → Option (List Instr)
  | _, [] => some []
  | 0, _ => none
  | fuel + 1, bs =>
    match commandAt bs with
    | none => none
    | some (c, rest) => (commandsWithin fuel rest).map (c :: ·)

/-- A serialized batch decoded (R115): every command takes at least one byte, so its length is fuel enough. -/
def decodeBatch (bs : List Byte) : Option (List Instr) := commandsWithin bs.length bs

/-! ## Encoding -/

/-- The count byte of a shift: `n − 1` in bits 2:0 (R111, R112). -/
def countByte (n : Nat) : Byte := BitVec.ofNat 8 (n - 1)

/-- The byte form of an instruction: request frames R101, commands `enc` of R114. -/
def encode : Instr → List Byte
  | .openBus channel pullUp =>
    [Config.codeOpen, BitVec.ofNat 8 channel, if pullUp then 1#8 else 0#8]
  | .setSpeed freq => Config.codeSetSpeed :: leBytes 8 (field64 freq)
  | .transact addr w rlen =>
    Config.codeTransact :: (leBytes 2 addr.toNat ++ leBytes 4 w.length ++ w ++ leBytes 4 rlen)
  | .closeBus => [Config.codeClose]
  | .clockPin => [Config.codeClockPin]
  | .dataPin => [Config.codeDataPin]
  | .setPins value dir => [Config.opSetPins, value, dir]
  | .shiftOut n data => [Config.opShiftOutBits, countByte n, data]
  | .shiftIn n => [Config.opShiftInBits, countByte n]
  | .setDivisor div => [Config.opSetDivisor, div.setWidth 8, (div >>> 8).setWidth 8]

/-- `ser(batch) = concat(map(enc, batch))` (R114). -/
def ser (batch : List Instr) : List Byte := batch.flatMap encode

/-! ## Text syntax (R120); numbers in decimal (log entry 29) -/

/-- A list of bytes as text. -/
def bytesText (bs : List Byte) : String :=
  "[" ++ String.intercalate ", " (bs.map fun b => toString b.toNat) ++ "]"

/-- The instruction in the text syntax of R120. -/
def Instr.text : Instr → String
  | .openBus channel pullUp => "OPEN " ++ toString channel ++ (if pullUp then ", pullup" else "")
  | .setSpeed freq => "SET_SPEED " ++ toString freq
  | .transact addr w rlen =>
    "TRANSACT " ++ toString addr.toNat ++ ", " ++ bytesText w ++ ", " ++ toString rlen
  | .closeBus => "CLOSE"
  | .clockPin => "CLOCK_PIN"
  | .dataPin => "DATA_PIN"
  | .setPins value dir => "SETPINS " ++ toString value.toNat ++ ", " ++ toString dir.toNat
  | .shiftOut n data => "SHOUT " ++ toString n ++ ", " ++ toString data.toNat
  | .shiftIn n => "SHIN " ++ toString n
  | .setDivisor div => "SETDIV " ++ toString div.toNat

/-! ## The table's words -/

/-- The bytes of a table word: the first byte is bits 7..0 (byte order of R101), and zeros follow, enough for the
longest operands that zeros encode (TRANSACT: 11 bytes, R119). -/
def tableBytes (nbits w : Nat) : List Byte := leBytes ((nbits + 7) / 8) w ++ List.replicate 11 0#8

/-- The instruction the decoder reads from a table word. -/
def decodeTableWord (nbits w : Nat) : Option Instr :=
  match decode (tableBytes nbits w) with
  | .instr i _ => some i
  | .rejected _ => none

end Sys2Proof
end

