-- ==== Sys2Proof/Machine/State.lean ====
section
/-! DEFINITION. The state of one block instance and of its ports, as plain data (10_state.md R31 to R49), the reasons
a step can stop, and the state after creation (R48). -/

namespace Sys2Proof.Machine

/-- `PHASE`, the sequencer phase (R38): `ready` when no request is in service, else the step the request in service
performs next. -/
inductive Phase where
  | ready
  | enter
  | clockset
  | reset
  | build
  | flush0
  | write
  | flush1
  | read
  | validate
  | copy
  | done
deriving DecidableEq, Repr

/-- `LOCK` (R40): free, or held by one request, named by its requester (a requester has one request at most, R251). -/
inductive Lock where
  | free
  | held (requester : Nat)
deriving DecidableEq, Repr

/-- One element of `WAITQ` (R40, R250): a request issued by a requester, as the frame it put on the request port. -/
structure Waiting where
  requester : Nat
  frame : List Byte
deriving DecidableEq, Repr

/-- The status of a completed request (60_exceptions.md R300). -/
inductive Status where
  | ok
  | outOfRange
  | unsupported
  | nakReceived
  | transportError
deriving DecidableEq, Repr

/-- The result data of a completion (R45): TRANSACT's `rdata`, the pin index of CLOCK_PIN and DATA_PIN, nothing
otherwise. -/
inductive CplData where
  | nothing
  | rdata (bs : Option (List Byte))
  | pin (index : Nat)
deriving DecidableEq, Repr

/-- `CPL`, the completion of the request in service (R45). -/
structure Completion where
  status : Status
  data : CplData
deriving DecidableEq, Repr

/-- An adapter-port interaction with what it sends (R44). -/
inductive Interaction where
  | txWrite (bytes : List Byte)
  | txFlush
  | txRead (n : Nat)
  | adpClockSet (v : Int)
  | adpEnterI2C
  | adpResetDefault
deriving DecidableEq, Repr

/-- An answer of the transport (R44): success, with the bytes a `TxRead` delivers, or failure. No answer at all is an
empty queue of answers (R351). -/
inductive Answer where
  | ok (bytes : List Byte)
  | err
deriving DecidableEq, Repr

/-- One entry of the adapter-port history: the interaction, and the serial number of the request that made it. -/
structure PortRecord where
  serial : Nat
  ix : Interaction
deriving DecidableEq, Repr

/-- A completion delivered to its requester. -/
structure Delivery where
  requester : Nat
  cpl : Completion
deriving DecidableEq, Repr

/-- The whole state: the block's registers (R31), its ports, the adapter as the block assumes it, and the model's own
counters. -/
structure State where
  /-- `CFG`, the I2C-mode-configured flag (R32). -/
  cfg : Bool
  /-- `DIR`, the pin-direction mask (R33). -/
  dir : Byte
  /-- `VAL`, the driven-value mask (R35). -/
  val : Byte
  /-- `PHASE` (R38). -/
  phase : Phase
  /-- `LOCK` (R40). -/
  lock : Lock
  /-- `WAITQ` (R40). Its order means nothing: which element is served next is `Config.lockOrder` (D20). -/
  waitq : List Waiting
  /-- `BATCH`, the commands emitted so far (R41). -/
  batch : List Instr
  /-- `RCOUNT`, the expected-response counter (R42). -/
  rcount : Nat
  /-- `RDLEN`, the number of queued read operations (R42). -/
  rdlen : Nat
  /-- `RESP`, the response buffer (R43). -/
  resp : List Byte
  /-- `REQ`, the request in service (R45). -/
  req : Option Instr
  /-- `CPL`, its completion, from the moment it is known to its delivery (R45). -/
  cpl : Option Completion
  /-- Request port: the requester whose request is being taken or served (R250). -/
  caller : Nat
  /-- Adapter port: the interaction of the current phase has been issued and is not answered yet (R39, R351). -/
  awaiting : Bool
  /-- Adapter port: the answers the transport gives next (R44, `TRANSPORT` of R12). Log entry 4. -/
  answers : List Answer
  /-- The transport's outbound stream (R73): bytes written and not yet executed by the adapter. -/
  outStream : List Byte
  /-- The adapter as the block assumes it. Log entry 9. -/
  adapter : Adapter
  /-- The adapter-port history (R79, R317), oldest first. Log entry 21. -/
  history : List PortRecord
  /-- The delivered completions, oldest first. Log entry 21. -/
  delivered : List Delivery
  /-- The refused mark (R306): some request of the run was refused. Log entry 7. -/
  refused : Bool
  /-- The model's own: how many requests have taken `LOCK`. Log entry 21. -/
  serial : Nat
  /-- The model's own: how many free values have been drawn. Log entries 6, 12, 13. -/
  draws : Nat
  /-- The instance's identity: the number of the adapter channel it serves, fixed at creation (R252, R316). No step
  writes it; it keeps the free values of two instances apart (R86). Log entry 33. -/
  ident : Nat
deriving DecidableEq, Repr

/-- Why the machine stops with a fault. Each is safe: the hardware may go on, the model does not. None is reachable
from a state that meets `StateInv` (Safety.lean). -/
inductive Fault where
  /-- Raised by `step` (through `adapterStep`): the outbound stream does not begin with a command of R110 to R113.
  What the adapter does with such bytes is outside the spec (R117). Safe. Log entry 16. -/
  | noCommand
  /-- Raised by the meanings of the six requests: PHASE is not on the request's path (R39). Safe. Log entry 23. -/
  | offPath
  /-- Raised by `step` (through `blockStep`): PHASE is not READY and no request is in service (R38 excludes it). Safe.
  Log entry 23. -/
  | noRequest
deriving DecidableEq, Repr

/-- Why an instruction has no meaning. The refusals of R306 are not among them: they are next states that carry the
refused mark (log entry 7). -/
inductive Refusal where
  /-- Raised by an arm of `exec` for an instruction the model gives no meaning yet. Safe. No arm does. -/
  | notModelled (mnemonic : String)
deriving DecidableEq, Repr

/-- What a step or a meaning answers. -/
abbrev Out := Host.Outcome State Fault Refusal

/-- The adapter before its first interaction: every field a value the model names (log entry 17). -/
def Adapter.reset : Adapter where
  i2cMode := false
  clock := .default
  pinDir := 0x00#8
  pinOut := 0x00#8
  inStream := []
  trace := []

/-- The state at creation (R48, R340), for the instance of channel 0 (`State.created` gives those of other channels;
log entry 33). The ports and the model's own fields start empty (log entry 17). -/
def State.reset : State where
  cfg := false
  dir := 0x00#8
  val := 0x00#8
  phase := .ready
  lock := .free
  waitq := []
  batch := []
  rcount := 0
  rdlen := 0
  resp := []
  req := none
  cpl := none
  caller := 0
  awaiting := false
  answers := []
  outStream := []
  adapter := Adapter.reset
  history := []
  delivered := []
  refused := false
  serial := 0
  draws := 0
  ident := 0

end Sys2Proof.Machine
end

