-- ==== Sys2Proof/Machine/Operands.lean ====
section
/-! DEFINITION. Operand forms: pin masks and levels (R33, R147, R180, R187), the address byte (R191), and the counts
of a batch (R148). -/

namespace Sys2Proof.Machine

/-- The mask of one pin. -/
def pinMask (bit : Nat) : Byte := 1#8 <<< bit

/-- `b` with pin `bit` at level `v`. -/
def setPin (b : Byte) (bit : Nat) (v : Bool) : Byte :=
  if v then b ||| pinMask bit else b &&& ~~~(pinMask bit)

/-- `DIR.SCL`, and the SCL level of `VAL` (R33, R35). -/
def fieldScl (b : Byte) : Bool := b.getLsbD Config.sclBit
/-- `DIR.SDA_OUT`, and the SDA_OUT level of `VAL` (R33, R35). -/
def fieldSdaOut (b : Byte) : Bool := b.getLsbD Config.sdaOutBit
/-- `DIR.SDA_IN` (R33). -/
def fieldSdaIn (b : Byte) : Bool := b.getLsbD Config.sdaInBit
/-- `DIR.UPPER`, the upper pins in place (R33). -/
def fieldUpper (b : Byte) : Byte := b &&& Config.upperMask

/-- A level as a bit in pin position `bit`. -/
def levelBit (level : Bool) (bit : Nat) : Byte := if level then pinMask bit else 0#8

/-- `Lv(scl, sda)` (R180): `(UPPER_VALUE & 0xF8) | (scl << 0) | (sda << 1)`. -/
def Lv (scl sda : Bool) : Byte :=
  (Config.upperValue &&& Config.upperMask) ||| levelBit scl Config.sclBit ||| levelBit sda Config.sdaOutBit

/-- The direction byte of the release command (R187): `d & ~0x02`. -/
def releaseDir (d : Byte) : Byte := d &&& ~~~(pinMask Config.sdaOutBit)

/-- The directions OPEN establishes (R252, R254): `(INIT_UPPER_DIR & 0xF8) | 0x03`. -/
def openDir : Byte :=
  (Config.initUpperDir &&& Config.upperMask) ||| (pinMask Config.sclBit ||| pinMask Config.sdaOutBit)

/-- `addrByte(addr, rd)` (R191): `((addr & 0x7F) << 1) | rd`. -/
def addrByte (addr : U16) (rd : Bool) : Byte :=
  (((addr &&& BitVec.ofNat 16 (2 ^ Config.addrBits - 1)).setWidth 8) <<< 1) ||| (if rd then 1#8 else 0#8)

/-- The level a SET_PINS asks for on a pin (R147): driven to `some` level, or `none` when the pin is released. -/
def pinLevel (value dir : Byte) (bit : Nat) : Option Bool :=
  if dir.getLsbD bit then some (value.getLsbD bit) else none

/-- The requested levels of SCL and SDA, command by command, where a command asks for any (R147). -/
def requestedLevels (cs : List Instr) : List (Option Bool × Option Bool) :=
  cs.filterMap fun
    | .setPins value dir => some (pinLevel value dir Config.sclBit, pinLevel value dir Config.sdaOutBit)
    | _ => none

/-- A SHIFT_IN_BITS command of any length (R148). -/
def isShiftIn : Instr → Bool
  | .shiftIn _ => true
  | _ => false

/-- `nShiftIn(batch)` (R148). -/
def nShiftIn (batch : List Instr) : Nat := batch.countP isShiftIn
/-- `nAckBearing(batch)` (R148): the 1-bit shift-ins. -/
def nAckBearing (batch : List Instr) : Nat := batch.count (.shiftIn 1)
/-- `nReadOps(batch)` (R148): the 8-bit shift-ins. -/
def nReadOps (batch : List Instr) : Nat := batch.count (.shiftIn 8)

end Sys2Proof.Machine
end

