-- ==== Sys2Proof/Machine/Flags.lean ====
section
/-! DEFINITION. Flags, checks and status codes. The block has no condition codes (R46): its checks are the admission
by `CFG` (R306), the NAK flag of a response byte (R118, R234), and the status of a completion (R300). -/

namespace Sys2Proof.Machine

/-- Whether a request is admitted (R306): OPEN while not configured; SET_SPEED and TRANSACT while configured, and
TRANSACT only with `addr` ≤ 0x7F; the others always. A command is no request. -/
def admits (cfg : Bool) : Instr → Bool
  | .openBus _ _ => !cfg
  | .setSpeed _ => cfg
  | .transact addr _ _ => cfg && decide (addr.toNat < 2 ^ Config.addrBits)
  | .closeBus => true
  | .clockPin => true
  | .dataPin => true
  | .setPins _ _ => false
  | .shiftOut _ _ => false
  | .shiftIn _ => false
  | .setDivisor _ => false

/-- The phases a request passes through (R39), READY left out. -/
def pathOf : Instr → List Phase
  | .openBus _ _ => [.enter, .build, .write, .flush1, .done]
  | .setSpeed _ => [.clockset, .done]
  | .transact _ _ _ => [.build, .flush0, .write, .flush1, .read, .validate, .copy, .done]
  | .closeBus => [.reset, .done]
  | .clockPin => [.done]
  | .dataPin => [.done]
  | .setPins _ _ => []
  | .shiftOut _ _ => []
  | .shiftIn _ => []
  | .setDivisor _ => []

/-- Bit 0 of an acknowledgment byte: 1 is NAK (R118, R234). -/
def nak (b : Byte) : Bool := b.getLsbD 0

/-- The acknowledgment region of a response (R233): its first `max(0, RCOUNT − rlen)` bytes. -/
def ackRegion (rcount rlen : Nat) (resp : List Byte) : List Byte := resp.take (rcount - rlen)

/-- `rdata` of a TRANSACT that was not refused a byte (R236): the last `RDLEN` response bytes, or nothing. -/
def readData (rcount rdlen : Nat) (resp : List Byte) : Option (List Byte) :=
  if rdlen = 0 then none else some ((resp.drop (rcount - rdlen)).take rdlen)

/-- The data of a completion that ends with an error (R309): `rdata` is `none` for TRANSACT, nothing otherwise. -/
def errorData : Instr → CplData
  | .transact _ _ _ => .rdata none
  | .openBus _ _ => .nothing
  | .setSpeed _ => .nothing
  | .closeBus => .nothing
  | .clockPin => .nothing
  | .dataPin => .nothing
  | .setPins _ _ => .nothing
  | .shiftOut _ _ => .nothing
  | .shiftIn _ => .nothing
  | .setDivisor _ => .nothing

/-- The code of a status (R300). -/
def statusCode : Status → Byte
  | .ok => 0#8
  | .outOfRange => 1#8
  | .unsupported => 2#8
  | .nakReceived => 3#8
  | .transportError => 4#8

/-- Which request can return which status (R305). -/
def canReturn : Instr → Status → Bool
  | .openBus _ _, st => st = .ok || st = .unsupported || st = .transportError
  | .setSpeed _, st => st = .ok || st = .outOfRange || st = .transportError
  | .transact _ _ _, st => st = .ok || st = .nakReceived || st = .transportError
  | .closeBus, st => st = .ok || st = .transportError
  | .clockPin, st => st = .ok
  | .dataPin, st => st = .ok
  | .setPins _ _, _ => false
  | .shiftOut _ _, _ => false
  | .shiftIn _, _ => false
  | .setDivisor _, _ => false

/-- The completion frame (R106): the status code, then `rdata` or the pin index. -/
def completionFrame (c : Completion) : List Byte :=
  statusCode c.status ::
    match c.data with
    | .nothing => []
    | .rdata none => [0#8]
    | .rdata (some bs) => 1#8 :: bs
    | .pin index => [BitVec.ofNat 8 index]

/-- What a completion makes of the caller's read buffer (R45, R236, R238): overwritten with `rdata`, or unchanged. -/
def readBufferAfter (buffer : List Byte) (c : Completion) : List Byte :=
  match c.data with
  | .rdata (some bs) => bs
  | .rdata none => buffer
  | .nothing => buffer
  | .pin _ => buffer

end Sys2Proof.Machine
end

