-- ==== Sys2Proof/Machine/Ops.lean ====
section
/-! DEFINITION. The shared operations: taking and refusing a request, ending one (the error entry of R309 and the
release of R239), emitting commands, and one adapter-port interaction with its answer. -/

namespace Sys2Proof.Machine

/-! ## The request port -/

/-- A requester has a request outstanding: waiting, or in service (R251). -/
def State.outstanding (s : State) (requester : Nat) : Bool :=
  s.waitq.any (fun w => w.requester == requester) || decide (s.lock = .held requester)

/-- A requester issues a request (R250, R251): its frame enters `WAITQ`; a requester with a request outstanding is
blocked and issues nothing. Log entry 2. -/
def State.issue (s : State) (requester : Nat) (frame : List Byte) : State :=
  if s.outstanding requester then s
  else { s with waitq := s.waitq ++ [{ requester := requester, frame := frame }] }

/-- The transport gets one more answer ready (R44). Log entry 4. -/
def State.answer (s : State) (a : Answer) : State := { s with answers := s.answers ++ [a] }

/-- An admitted request takes `LOCK` and is copied into `REQ` (R250). The transient registers are empty when it does
(R41, R42, R43). -/
def State.take (s : State) (i : Instr) : State :=
  { s with
    lock := .held s.caller, req := some i, cpl := none, awaiting := false, serial := s.serial + 1
    batch := [], rcount := 0, rdlen := 0, resp := [] }

/-- A refused request (R306): nothing happens but the refused mark, kept for the whole run. -/
def State.refuse (s : State) : State := { s with refused := true }

/-! ## Ending a request -/

/-- The transient registers cleared (R239, R309). -/
def State.clearTransients (s : State) : State := { s with batch := [], rcount := 0, rdlen := 0, resp := [] }

/-- `complete(status OK, data)` (R15): the completion is known, and the request is at `DONE`. -/
def State.complete (s : State) (data : CplData) : State :=
  { s with cpl := some { status := .ok, data := data }, phase := .done }

/-- `raise st`, the error entry (R309): `CPL` gets the status, with no data, the transient registers are cleared, and
the request goes to `DONE`. `CFG`, `DIR` and `VAL` stay as they are. -/
def State.raise (s : State) (i : Instr) (st : Status) : State :=
  { s.clearTransients with cpl := some { status := st, data := errorData i }, phase := .done }

/-- What `DONE` delivers: the completion, to the requester (R239). -/
def State.deliveries (s : State) : List Delivery :=
  match s.cpl with
  | some c => [{ requester := s.caller, cpl := c }]
  | none => []

/-- The `DONE` step (R39, R239): the transient registers are cleared, `LOCK` is released, `CPL` is delivered, and the
block is `READY`. -/
def State.release (s : State) : State :=
  { s.clearTransients with
    phase := .ready, lock := .free, req := none, cpl := none, delivered := s.delivered ++ s.deliveries }

/-! ## Emission (R141) -/

/-- `emitAll(cs)`. -/
def State.emitAll (s : State) (cs : List Instr) : State := { s with batch := s.batch ++ cs }

/-! ## The adapter port (R44) -/

/-- The interaction is issued: it enters the history once, and the block waits for its answer (R351). -/
def State.issued (s : State) (ix : Interaction) : State :=
  if s.awaiting then s
  else { s with awaiting := true, history := s.history ++ [{ serial := s.serial, ix := ix }] }

/-- What an answer means for an interaction: the bytes of a success, or nothing for a failure. A `TxRead(n)` succeeds
only with exactly `n` bytes (D21; log entry 5). -/
def Answer.reply (a : Answer) (ix : Interaction) : Option (List Byte) :=
  match a, ix with
  | .err, _ => none
  | .ok bs, .txRead n => if bs.length = n then some bs else none
  | .ok bs, .txWrite _ => some bs
  | .ok bs, .txFlush => some bs
  | .ok bs, .adpClockSet _ => some bs
  | .ok bs, .adpEnterI2C => some bs
  | .ok bs, .adpResetDefault => some bs

/-- The effect of a successful interaction on the adapter as the block assumes it (R44): entering I2C mode, the
forwarded clock value (R164), the default non-I2C clocking with all pins released (R256; log entry 14), and the bytes
a read consumes (R80). The default configuration is the same each time it is restored (R81).

DESIGN CHOICE, log entry 34: where the spec is silent (R44, R87), the adapter keeps what it holds. `TxFlush` changes
nothing, so pending response bytes stay on the inbound stream; `AdpEnterI2C` changes neither pins, clock nor inbound
stream; `AdpClockSet` changes the clock alone; `AdpResetDefault` keeps the inbound stream. -/
def adapterAfter (ident : Nat) (a : Adapter) : Interaction → Adapter
  | .txWrite _ => a
  | .txFlush => a
  | .txRead n => { a with inStream := a.inStream.drop n }
  | .adpClockSet v => { a with clock := .native v }
  | .adpEnterI2C => { a with i2cMode := true }
  | .adpResetDefault =>
    { a with i2cMode := false, clock := .default, pinDir := 0x00#8, pinOut := Config.defaultPinOut ident }

/-- The adapter's configuration taken from `found`: mode, clock and pins. -/
def Adapter.reconfigured (a found : Adapter) : Adapter :=
  { a with i2cMode := found.i2cMode, clock := found.clock, pinDir := found.pinDir, pinOut := found.pinOut }

/-- The requests whose failure leaves the adapter's configuration at any value (I16): OPEN and CLOSE. -/
def losesConfiguration : Instr → Bool
  | .openBus _ _ => true
  | .closeBus => true
  | .setSpeed _ => false
  | .transact _ _ _ => false
  | .clockPin => false
  | .dataPin => false
  | .setPins _ _ => false
  | .shiftOut _ _ => false
  | .shiftIn _ => false
  | .setDivisor _ => false

/-- The effect of a failed interaction of `i` on the adapter, `found` being any value (log entry 13). Traffic that has
taken place stays in the trace (R80), and the clock stays unless the request is SET_SPEED, OPEN or CLOSE (R164, R255).
Free are the configuration after a failed OPEN or CLOSE (I16), the clock after a failed clock-set, the pins and further
traffic of a failed write, part of which may have been executed (R80), and the inbound stream after a failure of the
transport's streams. -/
def Adapter.afterFailure (a found : Adapter) (i : Instr) (ix : Interaction) : Adapter :=
  let b := if losesConfiguration i then a.reconfigured found else a
  match ix with
  | .txWrite _ =>
    { b with
      pinDir := found.pinDir, pinOut := found.pinOut, inStream := found.inStream, trace := a.trace ++ found.trace }
  | .txFlush => { b with inStream := found.inStream }
  | .txRead _ => { b with inStream := found.inStream }
  | .adpClockSet _ => { b with clock := found.clock }
  | .adpEnterI2C => b
  | .adpResetDefault => b

/-- The bytes a successful interaction puts on the outbound stream (R73); a flush neither adds to it nor discards from
it (log entry 34). -/
def written : Interaction → List Byte
  | .txWrite bytes => bytes
  | .txFlush => []
  | .txRead _ => []
  | .adpClockSet _ => []
  | .adpEnterI2C => []
  | .adpResetDefault => []

/-- The port after a successful answer. -/
def State.succeeded (s : State) (ix : Interaction) : State :=
  { s with
    awaiting := false, draws := s.draws + 1
    adapter := adapterAfter s.ident s.adapter ix, outStream := s.outStream ++ written ix }

/-- The port after a failure of an interaction of `i` (log entry 13). -/
def State.failed (s : State) (i : Instr) (ix : Interaction) : State :=
  { s with
    awaiting := false, draws := s.draws + 1
    adapter := s.adapter.afterFailure (Config.adapterAfterFailure s.ident s.draws) i ix }

/-- One adapter-port interaction of the request `i` (R39, R44): it is issued, and then the transport succeeds (`onOk`,
with the bytes it delivers), fails (`onErr`), or has not answered, and the phase holds (R351). -/
def interact (i : Instr) (ix : Interaction) (onOk : List Byte → State → State) (onErr : State → State)
    (s : State) : Out :=
  match s.answers with
  | [] => .next (s.issued ix)
  | a :: later =>
    match a.reply ix with
    | some bs => .next (onOk bs ({ s.issued ix with answers := later }.succeeded ix))
    | none => .next (onErr ({ s.issued ix with answers := later }.failed i ix))

/-- The interaction's failure ends the request with TRANSPORT_ERROR (R304). -/
def State.transportError (i : Instr) (s : State) : State := s.raise i .transportError

/-! ## The adapter's pins -/

/-- One bit shifted out (R143): the data output pin takes it on the falling clock edge, and one clock pulse follows,
which leaves SCL low (R187; log entry 11). -/
def Adapter.clockOut (a : Adapter) (bit : Bool) : Adapter :=
  { a with
    pinOut := setPin (setPin a.pinOut Config.sdaOutBit bit) Config.sclBit false
    trace := a.trace ++ [.clockOut bit] }

/-- One bit shifted in (R144): one clock pulse, the data input pin sampled on the rising edge; SCL ends low (log
entry 11). -/
def Adapter.clockIn (a : Adapter) (bit : Bool) : Adapter :=
  { a with pinOut := setPin a.pinOut Config.sclBit false, trace := a.trace ++ [.clockIn bit] }

/-- The bits `ShiftOut(n, data)` sends, in order: `data[7]` to `data[8−n]` (R143). -/
def shiftedOutBits (n : Nat) (data : Byte) : List Bool := (List.range n).map fun k => data.getLsbD (7 - k)

/-- The bits a `ShiftIn(n)` samples, in order: any levels (log entry 12). -/
def sampledBits (ident draw n : Nat) : List Bool := (List.range n).map (Config.sampledBit ident draw)

/-- The response byte of `n` sampled bits (R118, R144): the k-th bit in `r[n−1−k]`, bits [7:n] of `fill` kept. -/
def responseByte (fill : Byte) (bits : List Bool) : Byte :=
  bits.zipIdx.foldl (fun r p => setPin r (bits.length - 1 - p.2) p.1) fill

/-- The effective divisor of a clock setting: SET_DIVISOR's own (R146), or what the adapter makes of its default or
of a forwarded value, which is open (R12, R164; log entry 26). -/
def AdapterClock.effective (ident : Nat) : AdapterClock → U16
  | .default => Config.adapterDefaultDivisor ident
  | .divisor div => div
  | .native v => Config.adapterClockSet ident v

end Sys2Proof.Machine
end

