-- ==== Sys2Proof/Machine/Commands.lean ====
section
/-! DEFINITION. The four commands, as the adapter executes them (the adapter-side effects of 40_command_batch.md R142
to R146). No register of the block changes. Log entry 9. -/

namespace Sys2Proof.Machine

/-- SET_PINS (R142): `pinDir <- dir; pinOut <- value; hold for one command time slice`. -/
def execSetPins (value dir : Byte) (s : State) : Out :=
  .next { s with adapter := { s.adapter with
    pinDir := dir, pinOut := value, trace := s.adapter.trace ++ [.slice value dir] } }

/-- SHIFT_OUT_BITS (R143): `n` bits, bit 7 of `data` first, each with one clock pulse. -/
def execShiftOut (n : Nat) (data : Byte) (s : State) : Out :=
  .next { s with adapter := (shiftedOutBits n data).foldl Adapter.clockOut s.adapter }

/-- SHIFT_IN_BITS (R144): `n` bits sampled, and exactly one response byte appended to the inbound stream (R145). -/
def execShiftIn (n : Nat) (s : State) : Out :=
  let bits := sampledBits s.ident s.draws n
  let a := bits.foldl Adapter.clockIn s.adapter
  .next { s with
    draws := s.draws + 1
    adapter := { a with inStream := a.inStream ++ [responseByte (Config.responseFill s.ident s.draws) bits] } }

/-- SET_DIVISOR (R146): `adapter clock divisor <- div`. -/
def execSetDivisor (div : U16) (s : State) : Out :=
  .next { s with adapter := { s.adapter with clock := .divisor div } }

end Sys2Proof.Machine
end

