-- ==== Sys2Proof/Machine/Sequencer.lean ====
section
/-! DEFINITION. The Signal Sequencer (42_signal_sequencer.md): pure functions from operands and the direction mask `d`
to command lists (R194), which are also the pseudo-instructions IDLE, START, STOP, WRBYTE and RDBYTE of R121. -/

namespace Sys2Proof.Machine

/-- `hold(v, d)` (R181). -/
def hold (v d : Byte) : List Instr := List.replicate Config.minHoldRepeats (.setPins v d)

/-- `idle(d)` (R182). -/
def idle (d : Byte) : List Instr := hold (Lv true true) d

/-- `start(d)` (R183). -/
def start (d : Byte) : List Instr := hold (Lv true false) d ++ hold (Lv false false) d

/-- `stop(d)` (R184). -/
def stop (d : Byte) : List Instr :=
  hold (Lv false false) d ++ hold (Lv true false) d ++ hold (Lv true true) d

/-- `writeByte(b, d)` (R186), with the release command of R187. -/
def writeByte (b d : Byte) : List Instr :=
  [.shiftOut 8 b, .setPins (Lv false false) (releaseDir d), .shiftIn 1]

/-- `writeBytes(bs, d)` (R188). -/
def writeBytes (bs : List Byte) (d : Byte) : List Instr := bs.flatMap fun b => writeByte b d

/-- `readByte(last, d)` (R189): the master's acknowledgment bit is bit 7 of the shifted-out data; `d` is not used. -/
def readByte (last : Bool) (_d : Byte) : List Instr :=
  [.shiftIn 8, .shiftOut 1 (if last then 0x80#8 else 0x00#8)]

/-- `readBytes(n, d)` (R190): the last byte is NAKed. -/
def readBytes (n : Nat) (d : Byte) : List Instr := (List.range n).flatMap fun k => readByte (k + 1 == n) d

end Sys2Proof.Machine
end

