-- ==== Sys2Proof/Machine/Builder.lean ====
section
/-! DEFINITION. The Transaction Builder (43_transaction_builder.md R210): the batch of a TRANSACT and its two
counters. -/

namespace Sys2Proof.Machine

/-- Step 1 (R211). -/
def buildStart (d : Byte) (s : State) : State :=
  { s with batch := [], rcount := 0, rdlen := 0 }.emitAll (start d)

/-- Step 2 (R212): the address byte in write direction, then every payload byte, each with its acknowledgment. -/
def buildWrite (addr : U16) (w : List Byte) (d : Byte) (s : State) : State :=
  { s.emitAll (writeBytes (addrByte addr false :: w) d) with rcount := s.rcount + 1 + w.length }

/-- Step 3 (R213): the restart, the address byte in read direction, and the read operations. -/
def buildRead (addr : U16) (rlen : Nat) (d : Byte) (s : State) : State :=
  { ((s.emitAll (stop d ++ idle d ++ start d)).emitAll (writeBytes [addrByte addr true] d)).emitAll
      (readBytes rlen d) with rcount := s.rcount + 1 + rlen, rdlen := rlen }

/-- `build(addr, w, rlen, d)` (R210): step 3 is taken if and only if both the payload and the read buffer are
non-empty (R213); every batch ends with a stop (R214). -/
def build (addr : U16) (w : List Byte) (rlen : Nat) (d : Byte) (s : State) : State :=
  let written := buildWrite addr w d (buildStart d s)
  let framed := if w.length ≠ 0 ∧ rlen ≠ 0 then buildRead addr rlen d written else written
  framed.emitAll (stop d)

end Sys2Proof.Machine
end

