-- ==== Sys2Proof/Machine/Executor.lean ====
section
/-! DEFINITION. The Transaction Executor (44_transaction_executor.md): TRANSACT. -/

namespace Sys2Proof.Machine

/-- TRANSACT (R230), one phase at a time: refused unless configured and `addr` ≤ 0x7F (R306); the batch is built
whole, flushed, written in one operation and flushed again (R231); exactly RCOUNT bytes are read (R232); any NAK in the
acknowledgment region ends the request with NAK_RECEIVED (R234); else the trailing RDLEN bytes are its data (R236). -/
def execTransact (addr : U16) (w : List Byte) (rlen : Nat) (s : State) : Out :=
  match s.phase with
  | .ready =>
    if admits s.cfg (.transact addr w rlen) then
      .next { s.take (.transact addr w rlen) with phase := .build }
    else .next s.refuse
  | .build => .next { build addr w rlen s.dir s with phase := .flush0 }
  | .flush0 =>
    interact (.transact addr w rlen) .txFlush (fun _ t => { t with phase := .write })
      (State.transportError (.transact addr w rlen)) s
  | .write =>
    interact (.transact addr w rlen) (.txWrite (ser s.batch)) (fun _ t => { t with phase := .flush1 })
      (State.transportError (.transact addr w rlen)) s
  | .flush1 =>
    interact (.transact addr w rlen) .txFlush (fun _ t => { t with phase := .read })
      (State.transportError (.transact addr w rlen)) s
  | .read =>
    interact (.transact addr w rlen) (.txRead s.rcount) (fun bs t => { t with resp := bs, phase := .validate })
      (State.transportError (.transact addr w rlen)) s
  | .validate =>
    if (ackRegion s.rcount rlen s.resp).any nak then
      .next (s.raise (.transact addr w rlen) .nakReceived)
    else .next { s with phase := .copy }
  | .copy => .next (s.complete (.rdata (readData s.rcount s.rdlen s.resp)))
  | .done => .next s.release
  | .enter | .clockset | .reset => .fault .offPath

end Sys2Proof.Machine
end

