-- ==== Sys2Proof/Machine/Clock.lean ====
section
/-! DEFINITION. The Clock Translator (41_clock_translator.md): SET_SPEED, and the automatic divisor of OPEN. The two
paths are kept apart (R166). -/

namespace Sys2Proof.Machine

/-- The range check (R160, R161). -/
def inRange (freq : Int) : Bool := decide (Config.fMin ≤ freq) && decide (freq ≤ Config.fMax)

/-- The forwarded value `(freq × 2) div 3` (R162), truncated toward zero (R13). -/
def scaledFreq (freq : Int) : Int := Int.tdiv (freq * 2) 3

/-- `autoDiv(T) = (((30_000_000 div T) − 1) × 2) div 3` (R165, R167). -/
def autoDiv (target : Nat) : Nat := ((Config.masterClock / target - 1) * 2) / 3

/-- `autoDivisor()` (R165): the formula at DEFAULT_FREQ. -/
def autoDivisor : U16 := BitVec.ofNat 16 (autoDiv Config.defaultFreq)

/-- SET_SPEED (R160): refused unless configured (R306); OUT_OF_RANGE before any interaction (R301); else the scaled
value is forwarded to the clock-set primitive, and no register of the block is written (R164). -/
def execSetSpeed (freq : Int) (s : State) : Out :=
  match s.phase with
  | .ready =>
    if !admits s.cfg (.setSpeed freq) then .next s.refuse
    else if inRange freq then .next { s.take (.setSpeed freq) with phase := .clockset }
    else .next ((s.take (.setSpeed freq)).raise (.setSpeed freq) .outOfRange)
  | .clockset =>
    interact (.setSpeed freq) (.adpClockSet (scaledFreq freq)) (fun _ t => t.complete .nothing)
      (State.transportError (.setSpeed freq)) s
  | .done => .next s.release
  | .enter | .reset | .build | .flush0 | .write | .flush1 | .read | .validate | .copy => .fault .offPath

end Sys2Proof.Machine
end

