-- ==== Sys2Proof/Machine/Lifecycle.lean ====
section
/-! DEFINITION. The bus lifecycle and pin introspection (45_bus_lifecycle.md): OPEN, CLOSE, CLOCK_PIN, DATA_PIN. -/

namespace Sys2Proof.Machine

/-- The batch of OPEN (R252): the automatic divisor, then the lines driven idle. -/
def openBatch (d : Byte) : List Instr := .setDivisor autoDivisor :: idle d

/-- The configured state a successful OPEN leaves (R252, R254, R341). -/
def State.configured (s : State) : State := { s with dir := openDir, val := Lv true true, cfg := true }

/-- The registers CLOSE clears, whatever the adapter answered (R256, R342). -/
def State.deconfigured (s : State) : State := { s with cfg := false, dir := 0x00#8, val := 0x00#8 }

/-- OPEN (R252): refused while configured (R306); UNSUPPORTED for pull-up mode before any interaction (R302); else
I2C mode is entered, the batch of divisor and idle levels is written and flushed, and only then are DIR, VAL and CFG
set. -/
def execOpen (channel : Nat) (pullUp : Bool) (s : State) : Out :=
  match s.phase with
  | .ready =>
    if !admits s.cfg (.openBus channel pullUp) then .next s.refuse
    else if pullUp && !Config.pullUpSupported then
      .next ((s.take (.openBus channel pullUp)).raise (.openBus channel pullUp) .unsupported)
    else .next { s.take (.openBus channel pullUp) with phase := .enter }
  | .enter =>
    interact (.openBus channel pullUp) .adpEnterI2C (fun _ t => { t with phase := .build })
      (State.transportError (.openBus channel pullUp)) s
  | .build => .next { { s with batch := [] }.emitAll (openBatch openDir) with phase := .write }
  | .write =>
    interact (.openBus channel pullUp) (.txWrite (ser s.batch)) (fun _ t => { t with phase := .flush1 })
      (State.transportError (.openBus channel pullUp)) s
  | .flush1 =>
    interact (.openBus channel pullUp) .txFlush (fun _ t => t.configured.complete .nothing)
      (State.transportError (.openBus channel pullUp)) s
  | .done => .next s.release
  | .clockset | .reset | .flush0 | .read | .validate | .copy => .fault .offPath

/-- CLOSE (R256), admitted in every state: the adapter is asked for its default configuration, and CFG, DIR and VAL are
cleared whatever it answers. -/
def execClose (s : State) : Out :=
  match s.phase with
  | .ready => .next { s.take .closeBus with phase := .reset }
  | .reset =>
    interact .closeBus .adpResetDefault (fun _ t => t.deconfigured.complete .nothing)
      (fun t => t.deconfigured.transportError .closeBus) s
  | .done => .next s.release
  | .enter | .clockset | .build | .flush0 | .write | .flush1 | .read | .validate | .copy => .fault .offPath

/-- A pin introspection (R260, R261): the pin's index, with no interaction. -/
def introspect (i : Instr) (index : Nat) (s : State) : Out :=
  match s.phase with
  | .ready => .next ((s.take i).complete (.pin index))
  | .done => .next s.release
  | .enter | .clockset | .reset | .build | .flush0 | .write | .flush1 | .read | .validate | .copy => .fault .offPath

/-- CLOCK_PIN (R260): SCL_BIT. -/
def execClockPin (s : State) : Out := introspect .clockPin Config.sclBit s

/-- DATA_PIN (R261): SDA_OUT_BIT. -/
def execDataPin (s : State) : Out := introspect .dataPin Config.sdaOutBit s

end Sys2Proof.Machine
end

