-- ==== Sys2Proof/Machine/Dispatch.lean ====
section
/-! DEFINITION. The meaning of each instruction, one arm per constructor of `Instr`. -/

namespace Sys2Proof.Machine

def exec (i : Instr) (s : State) : Host.Outcome State Fault Refusal :=
  match i with
  | .openBus channel pullUp => Sys2Proof.Machine.execOpen channel pullUp s
  | .setSpeed freq => Sys2Proof.Machine.execSetSpeed freq s
  | .transact addr w rlen => Sys2Proof.Machine.execTransact addr w rlen s
  | .closeBus => Sys2Proof.Machine.execClose s
  | .clockPin => Sys2Proof.Machine.execClockPin s
  | .dataPin => Sys2Proof.Machine.execDataPin s
  | .setPins value dir => Sys2Proof.Machine.execSetPins value dir s
  | .shiftOut n data => Sys2Proof.Machine.execShiftOut n data s
  | .shiftIn n => Sys2Proof.Machine.execShiftIn n s
  | .setDivisor div => Sys2Proof.Machine.execSetDivisor div s

end Sys2Proof.Machine
end

