-- ==== Sys2Proof/Machine/Fetch.lean ====
section
/-! DEFINITION. Where the next instruction comes from: the adapter's next command from the outbound stream (R85,
R115), the request in service (R38, R39), or one waiting request (R250). -/

namespace Sys2Proof.Machine

/-- The position in `WAITQ` of the request served next: any of them (`LOCK_ORDER`, D20; log entry 6),
in each instance on its own (R86; log entry 33). -/
def State.pick (s : State) : Nat :=
  match s.waitq with
  | [] => 0
  | [_] => 0
  | _ :: _ :: _ => Config.lockOrder s.ident s.draws % s.waitq.length

/-- The state in which the request at position `k` of `WAITQ`, of requester `r`, is presented to the block: it has left
`WAITQ` (R250). -/
def State.present (s : State) (k r : Nat) : State :=
  { s with waitq := s.waitq.eraseIdx k, caller := r, draws := s.draws + 1 }

/-- The adapter executes the next command of the outbound stream (R85). -/
def adapterStep (s : State) : Out :=
  match commandAt s.outStream with
  | some (c, rest) => exec c { s with outStream := rest }
  | none => .fault .noCommand

/-- One waiting request is chosen and taken, or refused (R250): a frame that holds no request is refused (R306, R108,
R102; log entry 8). With none waiting, the block waits (R340). -/
def serve (s : State) : Out :=
  match s.waitq[s.pick]? with
  | none => .next s
  | some w =>
    match requestOf w.frame with
    | some i => exec i (s.present s.pick w.requester)
    | none => .next (s.present s.pick w.requester).refuse

/-- The block's move: the next phase of the request in service, or, when `PHASE` is `READY` and `LOCK` is free, a
waiting request (R250; log entry 28). -/
def blockStep (s : State) : Out :=
  if s.phase = .ready then
    if s.lock = .free then serve s else .next s
  else
    match s.req with
    | some i => exec i s
    | none => .fault .noRequest

/-- `s` with the instruction at the head of `bs` where the next fetch finds it: a request as the one waiting frame of a
`READY` block, a command at the head of the outbound stream. Log entry 3. -/
def State.withInstrBytes (s : State) (bs : List Byte) : State :=
  match decode bs with
  | .instr i rest =>
    let own := bs.take (bs.length - rest.length)
    if i.isCommand then { s with outStream := own }
    else { s with outStream := [], phase := .ready, lock := .free, waitq := [{ requester := 0, frame := own }] }
  | .rejected _ =>
    { s with outStream := [], phase := .ready, lock := .free, waitq := [{ requester := 0, frame := bs }] }

end Sys2Proof.Machine
end

