-- ==== Sys2Proof/Machine/Step.lean ====
section
/-! DEFINITION. One step of the machine: the adapter executes one command while the outbound stream holds any (R80,
R85; log entry 10), else the block moves. -/

namespace Sys2Proof.Machine

/-- One step: an adapter command, one phase of the request in service, or taking a waiting request. Log entry 1. -/
def step (s : State) : Host.Outcome State Fault Refusal :=
  match s.outStream with
  | _ :: _ => adapterStep s
  | [] => blockStep s

/-- `s` with a table word placed where `step` fetches next. Log entry 3. -/
def State.withFetchWord (s : State) (nbits w : Nat) : State := s.withInstrBytes (tableBytes nbits w)

end Sys2Proof.Machine
end

