-- ==== Sys2Proof/Machine/Instances.lean ====
section
/-! DEFINITION. Several block instances, one per adapter channel (45_bus_lifecycle.md R262, 20_memory.md R86): a list
of states that share nothing, moved one at a time in any order. Log entries 25 and 33. -/

namespace Sys2Proof.Machine

/-- The instance of adapter channel `channel` at creation (R252, R316, R340). -/
def State.created (channel : Nat) : State := { State.reset with ident := channel }

/-- The instances of channels `0` to `n - 1` at creation, each with an identity of its own (R262). -/
def instances (n : Nat) : List State := (List.range n).map State.created

/-- Instance `k` makes one step; a number with no instance moves nothing. -/
def stepInstance (k : Nat) (sys : List State) : Host.Outcome (List State) Fault Refusal :=
  match sys[k]? with
  | none => .next sys
  | some s =>
    match step s with
    | .next t => .next (sys.set k t)
    | .fault f => .fault f
    | .refused r => .refused r

end Sys2Proof.Machine
end

