-- ==== Sys2Proof/Safety.lean ====
section
/-! DEFINITION. What claims are stated in terms of: the commands a batch may hold (R117), the invariant of the
machine, runs, and clean runs (R306). -/

namespace Sys2Proof.Machine

/-- The phases that make one adapter-port interaction (R39). -/
def Phase.interacts : Phase → Bool
  | .enter => true
  | .clockset => true
  | .reset => true
  | .flush0 => true
  | .write => true
  | .flush1 => true
  | .read => true
  | .ready => false
  | .build => false
  | .validate => false
  | .copy => false
  | .done => false

/-- The interaction that the request `i` makes in the present phase (R39, R44), if it makes one. -/
def State.interaction (s : State) (i : Instr) : Option Interaction :=
  match i with
  | .openBus _ _ =>
    match s.phase with
    | .enter => some .adpEnterI2C
    | .write => some (.txWrite (ser s.batch))
    | .flush1 => some .txFlush
    | _ => none
  | .setSpeed freq =>
    match s.phase with
    | .clockset => some (.adpClockSet (scaledFreq freq))
    | _ => none
  | .transact _ _ _ =>
    match s.phase with
    | .flush0 => some .txFlush
    | .write => some (.txWrite (ser s.batch))
    | .flush1 => some .txFlush
    | .read => some (.txRead s.rcount)
    | _ => none
  | .closeBus =>
    match s.phase with
    | .reset => some .adpResetDefault
    | _ => none
  | .clockPin | .dataPin => none
  | .setPins _ _ | .shiftOut _ _ | .shiftIn _ | .setDivisor _ => none

/-- An answer that fails the interaction (R304): an error, or a read that delivers another number of bytes than asked
for (R232, D21; log entry 5). -/
def Answer.fails (a : Answer) (ix : Interaction) : Prop :=
  a = .err ∨ ∃ n bs, ix = .txRead n ∧ a = .ok bs ∧ bs.length ≠ n

/-- The commands the block emits (R117): the four kinds, the shifts with 1 or 8 bits only. -/
def emittable : Instr → Bool
  | .setPins _ _ => true
  | .shiftOut n _ => n = 1 || n = 8
  | .shiftIn n => n = 1 || n = 8
  | .setDivisor _ => true
  | .openBus _ _ => false
  | .setSpeed _ => false
  | .transact _ _ _ => false
  | .closeBus => false
  | .clockPin => false
  | .dataPin => false

/-- The phases of a TRANSACT between its `BUILD` and its `DONE`, in which the batch and its counters stand (R89). -/
def Phase.afterBuild : Phase → Bool
  | .flush0 => true
  | .write => true
  | .flush1 => true
  | .read => true
  | .validate => true
  | .copy => true
  | .ready => false
  | .enter => false
  | .clockset => false
  | .reset => false
  | .build => false
  | .done => false

/-- The transient registers are empty. -/
def State.transientsEmpty (s : State) : Prop := s.batch = [] ∧ s.rcount = 0 ∧ s.rdlen = 0 ∧ s.resp = []

/-- The transient registers hold what `build` makes of these operands (R210). -/
def State.holdsBuilt (s : State) (addr : U16) (w : List Byte) (rlen : Nat) : Prop :=
  s.batch = (build addr w rlen s.dir s).batch ∧ s.rcount = (build addr w rlen s.dir s).rcount ∧
    s.rdlen = (build addr w rlen s.dir s).rdlen

/-- The invariant of the machine. It rules out the states the spec's registers never hold together. -/
structure StateInv (s : State) : Prop where
  /-- `PHASE` is `READY` exactly when `LOCK` is free (R38, R40). -/
  ready_free : s.phase = .ready ↔ s.lock = .free
  /-- A request is in service exactly when `PHASE` is not `READY` (R38, R45). -/
  ready_noReq : s.phase = .ready ↔ s.req = none
  /-- A completion waits for its delivery exactly at `DONE` (R45). -/
  done_cpl : s.phase = .done ↔ s.cpl.isSome = true
  /-- `PHASE` is on the path of the request in service (R39), which came from a frame. -/
  onPath : ∀ i, s.req = some i → s.phase ∈ pathOf i ∧ i.WellFormed = true
  /-- Until it is `DONE`, the request in service is one that `CFG` admits (R306). -/
  admitted : ∀ i, s.req = some i → s.phase ≠ .done → admits s.cfg i = true
  /-- Its completion has a status it can return (R305). -/
  returns : ∀ i c, s.req = some i → s.cpl = some c → canReturn i c.status = true
  /-- No request in service: the transient registers are empty (R41, R42, R43). -/
  ready_empty : s.phase = .ready → s.transientsEmpty
  /-- While configured, the masks are as OPEN left them (R34, R341). -/
  configured : s.cfg = true → s.dir = openDir ∧ s.val = Lv true true
  /-- While not configured, the masks are clear (R48, R342). -/
  notConfigured : s.cfg = false → s.dir = 0x00#8 ∧ s.val = 0x00#8
  /-- An interaction is outstanding only in a phase that makes one (R39). -/
  awaits : s.awaiting = true → s.phase.interacts = true
  /-- From `BUILD` to `DONE` a TRANSACT's batch and counters are what `build` made (R89, R216). -/
  built : ∀ addr w rlen, s.req = some (.transact addr w rlen) → s.phase.afterBuild = true →
    s.holdsBuilt addr w rlen
  /-- OPEN writes its own batch (R252). -/
  openBuilt : ∀ channel pullUp, s.req = some (.openBus channel pullUp) → s.phase.afterBuild = true →
    s.batch = openBatch openDir
  /-- The response holds RCOUNT bytes once read (R43). -/
  answered : s.phase = .validate ∨ s.phase = .copy → s.resp.length = s.rcount
  /-- The outbound stream is a run of whole commands the block emits (R114, R117). -/
  stream : ∃ cs, (∀ c ∈ cs, emittable c = true) ∧ s.outStream = ser cs
  /-- The interactions of one request form one contiguous run of the history, in the order requests took `LOCK`
  (R79, R84). -/
  contiguous : s.history.Pairwise (fun a b => a.serial ≤ b.serial) ∧ ∀ r ∈ s.history, r.serial ≤ s.serial
  /-- A requester has at most one request outstanding (R251), and the port selects the one in service. -/
  oneEach : (s.waitq.map Waiting.requester).Nodup ∧
    ∀ r, s.lock = .held r → r = s.caller ∧ r ∉ s.waitq.map Waiting.requester

/-- The adapter-port history once the interaction of the current phase has been issued: it is entered once, under the
serial number of the request in service (R79, R351). -/
def State.historyWith (s : State) (ix : Interaction) : List PortRecord :=
  if s.awaiting then s.history else s.history ++ [{ serial := s.serial, ix := ix }]

/-- `k` steps from `s` end in `t`, with no stop among them. -/
def Reaches (s : State) (k : Nat) (t : State) : Prop := Sys2Proof.core.run k s = .next t

/-- A run in which no request was refused: the only runs about whose results the spec supports a claim (R306). -/
def CleanRun (s : State) (k : Nat) (t : State) : Prop := Reaches s k t ∧ t.refused = false

/-- How many bytes the batch of the request in service has (R220, R252). -/
def State.batchBytes (s : State) : Nat :=
  match s.req with
  | some (.transact addr w rlen) => (ser (build addr w rlen s.dir s).batch).length
  | some (.openBus _ _) => (ser (openBatch openDir)).length
  | some (.setSpeed _) | some .closeBus | some .clockPin | some .dataPin => 0
  | some (.setPins _ _) | some (.shiftOut _ _) | some (.shiftIn _) | some (.setDivisor _) => 0
  | none => 0

/-- The block between two requests: `READY`, `LOCK` free, every written command executed, nothing outstanding. -/
def State.atRest (s : State) : Prop :=
  s.phase = .ready ∧ s.lock = .free ∧ s.outStream = [] ∧ s.awaiting = false

end Sys2Proof.Machine
end

