-- ==== Sys2Proof/Certificates/Slice0/Obligations.lean ====
section
/-! DEFINITION. The statements for the provers. Each docstring names the rules of spec/ it formalises; where a
statement rests on a choice of the spec or of the model, it says so. The fields `history`, `delivered`, `serial`,
`caller`, `awaiting`, `answers`, `outStream`, `adapter`, `draws` and `ident` stand for ports, the adapter, counters and
the instance's number that the model holds (log entries 4, 6, 9, 17, 21, 22, 24, 30, 33): a statement that gives a whole
next state gives the model's values for them. -/

open Sys2Proof Sys2Proof.Machine

/-! ## Encoding -/

/-- Every well-formed instruction is read back from its byte form, whatever follows it (R101 to R104, R110 to R116). -/
def Obligations.DecodeReadsBackEveryEncoding : Prop :=
  ∀ (i : Instr) (rest : List Byte), i.WellFormed = true → decode (encode i ++ rest) = .instr i rest

/-- Whatever the decoder reads as an instruction is exactly that instruction's byte form: no bit is ignored, and no two
byte forms share an instruction. -/
def Obligations.DecodedBytesAreTheEncoding : Prop :=
  ∀ (bs : List Byte) (i : Instr) (rest : List Byte), decode bs = .instr i rest →
    i.WellFormed = true ∧ bs = encode i ++ rest

/-- A serialized batch is decoded command by command, with nothing between the commands (R114, R115). -/
def Obligations.SerializedBatchIsReadBack : Prop :=
  ∀ batch : List Instr, (∀ c ∈ batch, c.isCommand = true ∧ c.WellFormed = true) →
    decodeBatch (ser batch) = some batch

/-- Words written out from the encodings decode to the instructions they stand for (V-E1 to V-E12). -/
def Obligations.WordsOfTheSpecDecode : Prop :=
  decode [0x01#8, 0x00#8, 0x01#8] = .instr (.openBus 0 true) [] ∧
  decode [0x02#8, 0xA0#8, 0x86#8, 0x01#8, 0x00#8, 0x00#8, 0x00#8, 0x00#8, 0x00#8] = .instr (.setSpeed 100000) [] ∧
  decode [0x03#8, 0x50#8, 0x00#8, 0x01#8, 0x00#8, 0x00#8, 0x00#8, 0x00#8, 0x04#8, 0x00#8, 0x00#8, 0x00#8] =
    .instr (.transact 0x50#16 [0x00#8] 4) [] ∧
  decode [0x13#8, 0x07#8, 0xA0#8] = .instr (.shiftOut 8 0xA0#8) [] ∧
  decode [0x22#8, 0x07#8, 0x13#8] = .instr (.shiftIn 8) [0x13#8] ∧
  decode [0x86#8, 0x31#8, 0x00#8] = .instr (.setDivisor 49#16) []

/-- Lengths are fixed by byte 0, but for TRANSACT, whose frame has 11 + wlen bytes (R115, R119). -/
def Obligations.LengthIsFixedByTheFirstByte : Prop :=
  ∀ i : Instr, (encode i).length =
    match i with
    | .openBus _ _ => 3
    | .setSpeed _ => 9
    | .transact _ w _ => 11 + w.length
    | .closeBus => 1
    | .clockPin => 1
    | .dataPin => 1
    | .setPins _ _ => 3
    | .shiftOut _ _ => 3
    | .shiftIn _ => 2
    | .setDivisor _ => 3

/-! ## The Clock Translator -/

/-- SET_SPEED accepts exactly 100 to 10_000_000 Hz (R161): in range, the request goes on to the clock-set primitive,
and succeeds when that does not fail and ends with TRANSPORT_ERROR when it does; out of range, it ends with
OUT_OF_RANGE. -/
def Obligations.SetSpeedSucceedsExactlyInRange : Prop :=
  (∀ (s : State) (freq : Int), s.phase = .ready → s.cfg = true →
    ∃ t, exec (.setSpeed freq) s = .next t ∧
      (100 ≤ freq ∧ freq ≤ 10000000 → t.phase = .clockset ∧ t.cpl = none) ∧
      (freq < 100 ∨ 10000000 < freq → t.phase = .done ∧ t.cpl = some ⟨.outOfRange, .nothing⟩)) ∧
  ∀ (s : State) (freq : Int) (later : List Answer), s.phase = .clockset →
    (∀ bs, s.answers = .ok bs :: later →
      ∃ t, exec (.setSpeed freq) s = .next t ∧ t.phase = .done ∧ t.cpl = some ⟨.ok, .nothing⟩) ∧
    (s.answers = .err :: later →
      ∃ t, exec (.setSpeed freq) s = .next t ∧ t.phase = .done ∧ t.cpl = some ⟨.transportError, .nothing⟩)

/-- SET_SPEED completes (R160, R162, R164): the forwarded value is `(freq × 2) div 3`, the adapter's clock is what that
value asks for, and no register of the block but PHASE and CPL changes. That the rest of the adapter stays as it was is
the model's choice (log entry 34). -/
def Obligations.SetSpeedForwardsTheScaledValue : Prop :=
  ∀ (s : State) (freq : Int) (bs : List Byte) (later : List Answer), s.phase = .clockset →
    s.answers = .ok bs :: later →
    exec (.setSpeed freq) s = .next { s with
      phase := .done, cpl := some ⟨.ok, .nothing⟩, awaiting := false, answers := later
      history := s.historyWith (.adpClockSet (Int.tdiv (freq * 2) 3))
      adapter := { s.adapter with clock := .native (Int.tdiv (freq * 2) 3) }, draws := s.draws + 1 }

/-- The forwarded value of an accepted frequency is between 66 and 6_666_666 and is the whole part of two thirds of the
frequency (R162, D12). -/
def Obligations.ScaledFrequencyIsTwoThirds : Prop :=
  ∀ freq : Int, 100 ≤ freq → freq ≤ 10000000 →
    66 ≤ scaledFreq freq ∧ scaledFreq freq ≤ 6666666 ∧
      3 * scaledFreq freq ≤ 2 * freq ∧ 2 * freq < 3 * scaledFreq freq + 3

/-- The automatic divisor (R165, R167, D13): 49 at 400 kHz, sent as `86 31 00`, and the other values the spec lists. -/
def Obligations.AutomaticDivisorIsFortyNine : Prop :=
  autoDivisor = 49#16 ∧ encode (.setDivisor autoDivisor) = [0x86#8, 0x31#8, 0x00#8] ∧
  autoDiv 100000 = 199 ∧ autoDiv 1000000 = 19 ∧ autoDiv 10000000 = 1 ∧ autoDiv 30000000 = 0

/-! ## The Signal Sequencer -/

/-- Idle and stop are held levels, four of each (R182, R184): their commands, sizes, and that they ask for no response;
a stop ends at the idle levels. -/
def Obligations.IdleAndStopAreHeldLevels : Prop :=
  ∀ d : Byte,
    idle d = List.replicate 4 (.setPins (Lv true true) d) ∧
    (ser (idle d)).length = 12 ∧ nShiftIn (idle d) = 0 ∧
    stop d = List.replicate 4 (.setPins (Lv false false) d) ++ List.replicate 4 (.setPins (Lv true false) d) ++
      List.replicate 4 (.setPins (Lv true true) d) ∧
    (stop d).length = 12 ∧ (ser (stop d)).length = 36 ∧ nShiftIn (stop d) = 0 ∧
    (stop d).getLast? = some (.setPins (Lv true true) d)

/-- The start and stop signatures (R185), for every direction mask that drives both lines: in a start SCL is high while
SDA is low, then both are low; in a stop SCL rises at the fifth command with SDA low, and SDA rises at the ninth with
SCL high. -/
def Obligations.StartAndStopSignatures : Prop :=
  ∀ d : Byte, d.getLsbD 0 = true → d.getLsbD 1 = true →
    requestedLevels (start d) =
      List.replicate 4 (some true, some false) ++ List.replicate 4 (some false, some false) ∧
    requestedLevels (stop d) =
      List.replicate 4 (some false, some false) ++ List.replicate 4 (some true, some false) ++
        List.replicate 4 (some true, some true)

/-- The address byte (R191): bits 7:1 hold the 7-bit address and bit 0 the direction. -/
def Obligations.AddressByteHoldsAddressAndDirection : Prop :=
  ∀ (addr : U16) (rd : Bool), addr.toNat ≤ 0x7F →
    addrByte addr rd = (((addr &&& 0x7F#16) <<< 1) ||| (if rd then 1#16 else 0#16)).setWidth 8 ∧
    (addrByte addr rd).toNat = 2 * addr.toNat + (if rd then 1 else 0)

/-- Written bytes (R186, R187, R188): `k` bytes make `3k` commands, `8k` bytes and `k` response bytes, every byte goes
out whole and in order, and every release command keeps all directions of `d` but SDA_OUT's, which it clears. -/
def Obligations.WrittenBytesGoOutInOrder : Prop :=
  ∀ (bs : List Byte) (d : Byte),
    (writeBytes bs d).length = 3 * bs.length ∧ (ser (writeBytes bs d)).length = 8 * bs.length ∧
    (writeBytes bs d).filter isShiftIn = List.replicate bs.length (.shiftIn 1) ∧
    ∀ k b, bs[k]? = some b →
      (writeBytes bs d)[3 * k]? = some (.shiftOut 8 b) ∧
      (∃ dir : Byte, (writeBytes bs d)[3 * k + 1]? = some (.setPins (Lv false false) dir) ∧
        dir.getLsbD 1 = false ∧ ∀ p, p ≠ 1 → dir.getLsbD p = d.getLsbD p) ∧
      (writeBytes bs d)[3 * k + 2]? = some (.shiftIn 1)

/-- Read bytes (R189, R190): `n` bytes make `2n` commands, `5n` bytes and `n` response bytes, and the master
acknowledges every byte but the last. -/
def Obligations.OnlyTheLastReadByteIsNaked : Prop :=
  ∀ (n : Nat) (d : Byte),
    (readBytes n d).length = 2 * n ∧ (ser (readBytes n d)).length = 5 * n ∧
    (readBytes n d).filter isShiftIn = List.replicate n (.shiftIn 8) ∧
    ∀ k, k < n →
      (readBytes n d)[2 * k]? = some (.shiftIn 8) ∧
      (readBytes n d)[2 * k + 1]? = some (.shiftOut 1 (if k + 1 = n then 0x80#8 else 0x00#8))

/-! ## The Transaction Builder -/

/-- Every batch of a transaction begins with a start and ends with a stop, which leaves the lines at the idle levels
(R211, R214). -/
def Obligations.EveryBatchStartsAndStops : Prop :=
  ∀ (addr : U16) (w : List Byte) (rlen : Nat) (d : Byte) (s : State),
    (∃ middle, (build addr w rlen d s).batch = start d ++ middle ++ stop d) ∧
    (build addr w rlen d s).batch.getLast? = some (.setPins (Lv true true) d)

/-- The kinds of transaction (R215, R217, R218, R219): an empty payload, read-only or with nothing to read either (the
address probe, the spec's decision D26), queues no read operation and sends the address in write direction; write-only has `1 + len(w)` acknowledgment-bearing operations and no read operation; a combined one has
the restart, the address in read direction, and the read operations. -/
def Obligations.BatchOfEachTransaction : Prop :=
  ∀ (addr : U16) (w : List Byte) (rlen : Nat) (d : Byte) (s : State),
    (w = [] →
      (build addr w rlen d s).batch = start d ++ writeByte (addrByte addr false) d ++ stop d ∧
      (build addr w rlen d s).rcount = 1 ∧ (build addr w rlen d s).rdlen = 0 ∧
      nReadOps (build addr w rlen d s).batch = 0) ∧
    (w ≠ [] → rlen = 0 →
      (build addr w rlen d s).batch = start d ++ writeBytes ([addrByte addr false] ++ w) d ++ stop d ∧
      (build addr w rlen d s).rcount = 1 + w.length ∧ (build addr w rlen d s).rdlen = 0 ∧
      nAckBearing (build addr w rlen d s).batch = 1 + w.length ∧ nReadOps (build addr w rlen d s).batch = 0) ∧
    (w ≠ [] → 1 ≤ rlen →
      (build addr w rlen d s).batch =
        start d ++ writeBytes ([addrByte addr false] ++ w) d ++ stop d ++ idle d ++ start d ++
          writeByte (addrByte addr true) d ++ readBytes rlen d ++ stop d ∧
      (build addr w rlen d s).rcount = (1 + w.length) + 1 + rlen ∧ (build addr w rlen d s).rdlen = rlen)

/-- The counter law and the layout of the response (R216, R221): the shift-ins of the batch are RCOUNT, first the
acknowledgment bytes, then RDLEN data bytes. -/
def Obligations.ResponseLayoutFollowsTheCounters : Prop :=
  ∀ (addr : U16) (w : List Byte) (rlen : Nat) (d : Byte) (s : State),
    (build addr w rlen d s).batch.filter isShiftIn =
      List.replicate ((build addr w rlen d s).rcount - (build addr w rlen d s).rdlen) (.shiftIn 1) ++
        List.replicate (build addr w rlen d s).rdlen (.shiftIn 8) ∧
    nShiftIn (build addr w rlen d s).batch = (build addr w rlen d s).rcount ∧
    1 ≤ (build addr w rlen d s).rcount

/-- The sizes of a batch (R220), the address probe of D26 among them. -/
def Obligations.BatchSizes : Prop :=
  ∀ (addr : U16) (w : List Byte) (rlen : Nat) (d : Byte) (s : State),
    (w = [] ∨ rlen = 0 →
      (build addr w rlen d s).batch.length = 23 + 3 * w.length ∧
      (ser (build addr w rlen d s).batch).length = 68 + 8 * w.length) ∧
    (w ≠ [] → rlen ≠ 0 →
      (build addr w rlen d s).batch.length = 50 + 3 * w.length + 2 * rlen ∧
      (ser (build addr w rlen d s).batch).length = 148 + 8 * w.length + 5 * rlen)

/-- The block emits only the four commands, the shifts with 1 or 8 bits only (R117), in TRANSACT and in OPEN. -/
def Obligations.OnlyEmittableCommandsAreBuilt : Prop :=
  (∀ (addr : U16) (w : List Byte) (rlen : Nat) (d : Byte) (s : State),
    ∀ c ∈ (build addr w rlen d s).batch, emittable c = true) ∧
  ∀ d : Byte, ∀ c ∈ openBatch d, emittable c = true

/-! ## The commands, as the adapter executes them -/

/-- SET_PINS and SET_DIVISOR complete (R142, R146): SET_PINS sets directions and levels and holds them for one time
slice; SET_DIVISOR sets the adapter's divisor. Nothing else changes. The adapter, its pin trace among it, is held by the
model (log entry 9). -/
def Obligations.SetPinsAndSetDivisorEffects : Prop :=
  (∀ (value dir : Byte) (s : State), exec (.setPins value dir) s = .next { s with
    adapter := { s.adapter with
      pinDir := dir, pinOut := value, trace := s.adapter.trace ++ [.slice value dir] } }) ∧
  ∀ (div : U16) (s : State), exec (.setDivisor div) s = .next { s with
    adapter := { s.adapter with clock := .divisor div } }

/-- SHIFT_OUT_BITS completes (R143, D8): it sends `data[7]` to `data[8−n]` in that order, leaves the data output pin at
the last of them, and changes nothing but the output levels of SCL and SDA_OUT. Where the data output pin is left, and
that no other pin moves, is deduced, not the spec's words (log entry 11); the adapter, its pin trace among it, is held by
the model (log entry 9). -/
def Obligations.ShiftOutSendsTheTopBitsFirst : Prop :=
  ∀ (n : Nat) (data : Byte) (s : State), 1 ≤ n → n ≤ 8 →
    ∃ t levels, exec (.shiftOut n data) s = .next t ∧
      t = { s with adapter := { s.adapter with
        pinOut := levels
        trace := s.adapter.trace ++ (List.range n).map (fun k => PinEvent.clockOut (data.getLsbD (7 - k))) } } ∧
      levels.getLsbD 1 = data.getLsbD (8 - n) ∧
      ∀ p, 2 ≤ p → levels.getLsbD p = s.adapter.pinOut.getLsbD p

/-- SHIFT_IN_BITS completes (R118, R144, D8): exactly one response byte joins the inbound stream, its bits `[n−1:0]` the
sampled bits, the first in bit `n−1`; every other level than SCL's is kept, which is deduced, not the spec's words (log
entry 11). The sampled bits, and bits `[7:n]`, are any values (log entry 12); the adapter, its pin trace among it, is
held by the model (log entry 9). -/
def Obligations.ShiftInAppendsOneResponseByte : Prop :=
  ∀ (n : Nat) (s : State), 1 ≤ n → n ≤ 8 →
    ∃ (t : State) (levels r : Byte) (bits : List Bool), exec (.shiftIn n) s = .next t ∧
      bits.length = n ∧
      t = { s with
        draws := s.draws + 1
        adapter := { s.adapter with
          pinOut := levels, inStream := s.adapter.inStream ++ [r]
          trace := s.adapter.trace ++ bits.map PinEvent.clockIn } } ∧
      (∀ k b, bits[k]? = some b → r.getLsbD (n - 1 - k) = b) ∧
      ∀ p, 1 ≤ p → levels.getLsbD p = s.adapter.pinOut.getLsbD p

/-- The response law (R145): the adapter, given a whole batch, executes its commands in order and produces exactly one
response byte for each shift-in and none for the others; after any part of the batch it has produced the response bytes
of that part. That a step is one command, and that the block's registers stand meanwhile, since the whole batch is
executed before the block's next phase, are the model's choices (log entries 1 and 10), and so is the adapter in State
(log entry 9). -/
def Obligations.OneResponseByteForEachShiftIn : Prop :=
  ∀ (s : State) (batch : List Instr), (∀ c ∈ batch, c.isCommand = true ∧ c.WellFormed = true) →
    s.outStream = ser batch →
    ∃ responses : List Byte, responses.length = nShiftIn batch ∧
      ∀ done left : List Instr, batch = done ++ left →
        ∃ t, Reaches s done.length t ∧ t.outStream = ser left ∧
          t.adapter.inStream = s.adapter.inStream ++ responses.take (nShiftIn done) ∧
          t = { s with outStream := t.outStream, adapter := t.adapter, draws := t.draws }

/-! ## Taking and refusing a request -/

/-- Refusals (R306, R250): a request of the table's conditions, or a frame that holds no request, leaves `WAITQ`; it
takes no lock, makes no interaction, writes no register of the block, and gets no completion; the refused mark is set.
The model's choices: the mark (log entry 7), that a frame with missing or extra bytes holds no request and is refused
too (log entry 8), and that `caller` names the refused requester (log entry 22). -/
def Obligations.RefusedRequestHasNoEffect : Prop :=
  ∀ (s : State) (w : Waiting), s.outStream = [] → s.phase = .ready → s.lock = .free →
    s.waitq[s.pick]? = some w →
    (requestOf w.frame = none ∨
      (∃ channel pullUp, requestOf w.frame = some (.openBus channel pullUp) ∧ s.cfg = true) ∨
      (∃ freq, requestOf w.frame = some (.setSpeed freq) ∧ s.cfg = false) ∨
      (∃ addr bs rlen, requestOf w.frame = some (.transact addr bs rlen) ∧ (s.cfg = false ∨ 0x7F < addr.toNat))) →
    step s = .next { s with
      waitq := s.waitq.eraseIdx s.pick, caller := w.requester, draws := s.draws + 1, refused := true }

/-- Reserved request codes and reserved flag bits (R108, R102): such frames hold no request. -/
def Obligations.ReservedFramesHoldNoRequest : Prop :=
  (∀ (c : Byte) (bs : List Byte), c.toNat = 0 ∨ 0x07 ≤ c.toNat → requestOf (c :: bs) = none) ∧
  ∀ (channel flags : Byte) (bs : List Byte), 2 ≤ flags.toNat → requestOf (0x01#8 :: channel :: flags :: bs) = none

/-- Admission (R306, R250, R39): every other request takes `LOCK` in its requester's name and is copied into `REQ`, with
the transient registers empty. It goes to the first phase of its path, or straight to `DONE` when it is rejected before
any interaction (R301, R302) or makes none (R260, R261). No interaction is made, and CFG, DIR and VAL stay. That the
requester is the one `caller` names is the model's form (log entry 22). -/
def Obligations.AdmittedRequestTakesTheLock : Prop :=
  ∀ (s : State) (i : Instr), s.phase = .ready → i.isRequest = true →
    (∀ channel pullUp, i = .openBus channel pullUp → s.cfg = false) →
    (∀ freq, i = .setSpeed freq → s.cfg = true) →
    (∀ addr w rlen, i = .transact addr w rlen → s.cfg = true ∧ addr.toNat ≤ 0x7F) →
    ∃ phase cpl, exec i s = .next { s with
        phase := phase, cpl := cpl, lock := .held s.caller, req := some i, awaiting := false, serial := s.serial + 1
        batch := [], rcount := 0, rdlen := 0, resp := [] } ∧
      (phase, cpl) =
        match i with
        | .openBus _ pullUp =>
          if pullUp then (.done, some ⟨.unsupported, .nothing⟩) else (.enter, none)
        | .setSpeed freq =>
          if 100 ≤ freq ∧ freq ≤ 10000000 then (.clockset, none) else (.done, some ⟨.outOfRange, .nothing⟩)
        | .transact _ _ _ => (.build, none)
        | .closeBus => (.reset, none)
        | .clockPin => (.done, some ⟨.ok, .pin 0⟩)
        | .dataPin => (.done, some ⟨.ok, .pin 1⟩)
        | _ => (.ready, none)

/-! ## The phases of OPEN, CLOSE and TRANSACT -/

/-- OPEN completes, phase by phase (R252, R254, R255): I2C mode is entered, the batch is the divisor and the idle levels,
it is written in one operation and flushed, and only then are DIR, VAL and CFG set. That entering I2C mode changes the
adapter's mode alone, and that the write and the flush change nothing of the adapter, is the model's choice (log entry
34), and so is that the bytes enter the outbound stream when the write succeeds (log entry 30). -/
def Obligations.OpenCompletesPhaseByPhase : Prop :=
  ∀ (s : State) (channel : Nat) (pullUp : Bool) (bs : List Byte) (later : List Answer),
    (s.phase = .build → exec (.openBus channel pullUp) s = .next { s with
      phase := .write, batch := .setDivisor 49#16 :: List.replicate 4 (.setPins (Lv true true) openDir) }) ∧
    (s.answers = .ok bs :: later →
      (s.phase = .enter → exec (.openBus channel pullUp) s = .next { s with
        phase := .build, awaiting := false, answers := later, history := s.historyWith .adpEnterI2C
        adapter := { s.adapter with i2cMode := true }, draws := s.draws + 1 }) ∧
      (s.phase = .write → exec (.openBus channel pullUp) s = .next { s with
        phase := .flush1, awaiting := false, answers := later, history := s.historyWith (.txWrite (ser s.batch))
        outStream := s.outStream ++ ser s.batch, draws := s.draws + 1 }) ∧
      (s.phase = .flush1 → exec (.openBus channel pullUp) s = .next { s with
        phase := .done, cpl := some ⟨.ok, .nothing⟩, cfg := true
        dir := (Config.initUpperDir &&& 0xF8#8) ||| 0x03#8, val := Lv true true
        awaiting := false, answers := later, history := s.historyWith .txFlush, draws := s.draws + 1 }))

/-- CLOSE completes (R256): the adapter is asked for its default configuration, and CFG, DIR and VAL are cleared whatever
it answers; a failure ends the request with TRANSPORT_ERROR (D17). What the default configuration is, its output levels
one value for the instance, is log entry 14; that the inbound stream stays after a success is the model's choice (log
entry 34). After a failure the adapter's configuration is any value (I16), its traffic stays (R80), and that its inbound
stream stays is the model's choice (log entry 13). The transient registers cleared in this step are log entry 20. -/
def Obligations.CloseClearsTheMasksWhateverTheAnswer : Prop :=
  ∀ (s : State) (later : List Answer), s.phase = .reset →
    (∀ bs, s.answers = .ok bs :: later → exec .closeBus s = .next { s with
      phase := .done, cpl := some ⟨.ok, .nothing⟩, cfg := false, dir := 0x00#8, val := 0x00#8
      awaiting := false, answers := later, history := s.historyWith .adpResetDefault, draws := s.draws + 1
      adapter := { s.adapter with
        i2cMode := false, clock := .default, pinDir := 0x00#8, pinOut := Config.defaultPinOut s.ident } }) ∧
    (s.answers = .err :: later → ∃ mode clock dir levels, exec .closeBus s = .next { s with
      phase := .done, cpl := some ⟨.transportError, .nothing⟩, cfg := false, dir := 0x00#8, val := 0x00#8
      batch := [], rcount := 0, rdlen := 0, resp := []
      awaiting := false, answers := later, history := s.historyWith .adpResetDefault, draws := s.draws + 1
      adapter := { s.adapter with i2cMode := mode, clock := clock, pinDir := dir, pinOut := levels } })

/-- TRANSACT completes, phase by phase (R230, R231, R232): the batch is built whole before any interaction, then flush,
one write of the serialized batch, flush, and a read of exactly RCOUNT bytes into RESP. The model's choices: a
successful flush and write leave the adapter as it was (log entry 34), and the read takes its bytes from the answer and
drops as many from the adapter's inbound stream (log entry 15). The bytes of the write enter the outbound stream when it
succeeds (log entry 30). -/
def Obligations.TransactInteractsInOrder : Prop :=
  ∀ (s : State) (addr : U16) (w : List Byte) (rlen : Nat) (bs : List Byte) (later : List Answer),
    (s.phase = .build → exec (.transact addr w rlen) s = .next { s with
      phase := .flush0, batch := (build addr w rlen s.dir s).batch, rcount := (build addr w rlen s.dir s).rcount
      rdlen := (build addr w rlen s.dir s).rdlen }) ∧
    (s.answers = .ok bs :: later →
      (s.phase = .flush0 → exec (.transact addr w rlen) s = .next { s with
        phase := .write, awaiting := false, answers := later, history := s.historyWith .txFlush
        draws := s.draws + 1 }) ∧
      (s.phase = .write → exec (.transact addr w rlen) s = .next { s with
        phase := .flush1, awaiting := false, answers := later, history := s.historyWith (.txWrite (ser s.batch))
        outStream := s.outStream ++ ser s.batch, draws := s.draws + 1 }) ∧
      (s.phase = .flush1 → exec (.transact addr w rlen) s = .next { s with
        phase := .read, awaiting := false, answers := later, history := s.historyWith .txFlush
        draws := s.draws + 1 }) ∧
      (s.phase = .read → bs.length = s.rcount → exec (.transact addr w rlen) s = .next { s with
        phase := .validate, resp := bs, awaiting := false, answers := later
        history := s.historyWith (.txRead s.rcount), draws := s.draws + 1
        adapter := { s.adapter with inStream := s.adapter.inStream.drop s.rcount } }))

/-- The copy of TRANSACT (R236, R237): the trailing RDLEN bytes of the response are the result data, in order and
unchanged; with RDLEN = 0 there is no result data and the caller's read buffer is left alone. -/
def Obligations.TransactCopiesTheTrailingBytes : Prop :=
  ∀ (s : State) (addr : U16) (w : List Byte) (rlen : Nat) (acks data : List Byte), s.phase = .copy →
    s.resp = acks ++ data → s.rcount = (acks ++ data).length → s.rdlen = data.length →
    ∃ c, exec (.transact addr w rlen) s = .next { s with phase := .done, cpl := some c } ∧ c.status = .ok ∧
      c.data = .rdata (if data = [] then none else some data) ∧
      ∀ buffer : List Byte, readBufferAfter buffer c = if data = [] then buffer else data

/-- NAK validation (R233, R234, R309): bit 0 of any byte of the acknowledgment region ends the transaction with
NAK_RECEIVED, with no result data and nothing said of which byte; no other bit, and no byte outside the region, does.
The region is empty where `RCOUNT − rlen` is negative, by the spec's decision D34. That the transient registers are
cleared in this step is R309, its place log entry 20. -/
def Obligations.AnyNakFailsTheTransaction : Prop :=
  ∀ (s : State) (addr : U16) (w : List Byte) (rlen : Nat), s.phase = .validate →
    ((∃ k b, k < s.rcount - rlen ∧ s.resp[k]? = some b ∧ b.getLsbD 0 = true) →
      exec (.transact addr w rlen) s = .next { s with
        phase := .done, cpl := some ⟨.nakReceived, .rdata none⟩, batch := [], rcount := 0, rdlen := 0, resp := [] }) ∧
    ((∀ k b, k < s.rcount - rlen → s.resp[k]? = some b → b.getLsbD 0 = false) →
      exec (.transact addr w rlen) s = .next { s with phase := .copy })

/-- `DONE` (R39, R239): on every exit path the transient registers are cleared, `LOCK` is released, and the completion
goes to the requester. -/
def Obligations.DoneReleasesAndDelivers : Prop :=
  ∀ (s : State) (i : Instr) (c : Completion), i.isRequest = true → s.phase = .done → s.cpl = some c →
    exec i s = .next { s with
      phase := .ready, lock := .free, req := none, cpl := none
      batch := [], rcount := 0, rdlen := 0, resp := [], delivered := s.delivered ++ [⟨s.caller, c⟩] }

/-- The error entry (R304, R309, R240): an answer that fails the interaction of the phase, an error or a read that
delivers another number of bytes than asked for (R232, D21; log entry 5), ends any request at that step with
TRANSPORT_ERROR and no data; the transient registers are cleared; CFG, DIR and VAL stay, but for CLOSE, which clears
them; no other register changes, and no further interaction is made. Of the adapter, the traffic that has taken place
stays (R80), and after a TRANSACT the clock does (R164, R255). The model's own, all log entry 13: that only a failed
write adds traffic, and that its bytes do not enter the outbound stream; that after a TRANSACT the mode stays, which is
deduced; that after a SET_SPEED everything but the clock stays; and that the rest is any value. The transient registers
are cleared in this step (R309, log entry 20). -/
def Obligations.FailedInteractionEndsTheRequest : Prop :=
  ∀ (s : State) (i : Instr) (a : Answer) (later : List Answer), i.isRequest = true → s.phase ∈ pathOf i →
    s.phase.interacts = true → s.answers = a :: later →
    ∃ ix, s.interaction i = some ix ∧ (a.fails ix → ∃ left, exec i s = .next { s with
      phase := .done
      cpl := some ⟨.transportError, match i with | .transact _ _ _ => .rdata none | _ => .nothing⟩
      batch := [], rcount := 0, rdlen := 0, resp := []
      cfg := if i = .closeBus then false else s.cfg
      dir := if i = .closeBus then 0x00#8 else s.dir
      val := if i = .closeBus then 0x00#8 else s.val
      awaiting := false, answers := later, history := s.historyWith ix, draws := s.draws + 1, adapter := left } ∧
      s.adapter.trace <+: left.trace ∧ ((∀ bytes, ix ≠ .txWrite bytes) → left.trace = s.adapter.trace) ∧
      (∀ addr w rlen, i = .transact addr w rlen →
        left.clock = s.adapter.clock ∧ left.i2cMode = s.adapter.i2cMode) ∧
      ∀ freq, i = .setSpeed freq → left = { s.adapter with clock := left.clock })

/-- Unbounded waits (R351, R39): with no answer, the block holds its phase with `LOCK` held; the interaction is made once,
and from then on the state does not change at all. The model's choices: how the wait is recorded (log entries 4 and 24),
and that the adapter and the outbound stream stand too, so that no part of a write that is not answered is executed (log
entry 30). -/
def Obligations.UnansweredInteractionHolds : Prop :=
  ∀ (s : State) (i : Instr), i.isRequest = true → s.phase ∈ pathOf i → s.phase.interacts = true → s.answers = [] →
    ∃ ix, s.interaction i = some ix ∧ (s.awaiting = true → exec i s = .next s) ∧
      (s.awaiting = false → exec i s = .next { s with
        awaiting := true, history := s.history ++ [⟨s.serial, ix⟩] })

/-! ## The step -/

/-- A step runs the decoded instruction: the next command of the outbound stream, with the stream past it; else, when
`READY` with `LOCK` free, the chosen waiting request, which has left `WAITQ`; else the next phase of the request in
service (R38, R85, R115, R250). The model's: what one step is (log entry 1), that written commands run first (log entry
10), that the choice is counted (log entry 6), and that `caller` names the chosen requester (log entry 22). -/
def Obligations.StepRunsTheDecodedInstruction : Prop :=
  (∀ (s : State) (c : Instr) (rest : List Byte), decode s.outStream = .instr c rest → c.isCommand = true →
    step s = exec c { s with outStream := rest }) ∧
  (∀ (s : State) (w : Waiting) (i : Instr), s.outStream = [] → s.phase = .ready → s.lock = .free →
    s.waitq[s.pick]? = some w → decode w.frame = .instr i [] → i.isRequest = true →
    step s = exec i { s with
      waitq := s.waitq.eraseIdx s.pick, caller := w.requester, draws := s.draws + 1 }) ∧
  ∀ (s : State) (i : Instr), s.outStream = [] → s.phase ≠ .ready → s.req = some i → step s = exec i s

/-- Creation (R48, R340; the ports' empty start is log entry 17). -/
def Obligations.CreationState : Prop :=
  State.reset.cfg = false ∧ State.reset.dir = 0x00#8 ∧ State.reset.val = 0x00#8 ∧ State.reset.phase = .ready ∧
  State.reset.lock = .free ∧ State.reset.waitq = [] ∧ State.reset.batch = [] ∧ State.reset.rcount = 0 ∧
  State.reset.rdlen = 0 ∧ State.reset.resp = [] ∧ State.reset.req = none ∧ State.reset.cpl = none

/-- The invariant holds at creation, of whichever channel's instance (log entry 33), with the ports empty (log entry
17). -/
def Obligations.CreationMeetsTheInvariant : Prop :=
  StateInv State.reset ∧ ∀ channel : Nat, StateInv (State.created channel)

/-- Every step keeps the invariant, from every state that meets it. Its clauses name the rules of the registers; those
about `awaiting`, the outbound stream, the serial numbers of the history, and `caller` are about fields of the model (log
entries 24, 10, 13 and 30, 21, and 22). -/
def Obligations.StepKeepsTheInvariant : Prop :=
  ∀ s t : State, StateInv s → step s = .next t → StateInv t

/-- What the outside does keeps the invariant: a requester's issue (R250, R251) and a transport answer (R44). That both
happen between steps is the model's (log entries 2 and 4). -/
def Obligations.InputsKeepTheInvariant : Prop :=
  ∀ s : State, StateInv s → (∀ (r : Nat) (frame : List Byte), StateInv (s.issue r frame)) ∧ ∀ a : Answer, StateInv (s.answer a)

/-- From a state that meets the invariant, no step stops: every error is a status (R300, R310), and the machine goes
on. The faults that this rules out are the model's (log entries 16 and 23). -/
def Obligations.MachineNeverStops : Prop :=
  ∀ s : State, StateInv s → ∃ t, step s = .next t

/-! ## Rules of the whole machine -/

/-- Only OPEN, at its end, and CLOSE write CFG, DIR and VAL (R32, R36, R343). -/
def Obligations.OnlyOpenAndCloseWriteTheMasks : Prop :=
  ∀ s t : State, step s = .next t →
    t.cfg = s.cfg ∧ t.dir = s.dir ∧ t.val = s.val ∨
    (∃ channel pullUp, s.req = some (.openBus channel pullUp)) ∧ s.phase = .flush1 ∧
      t.cfg = true ∧ t.dir = openDir ∧ t.val = Lv true true ∨
    s.req = some .closeBus ∧ s.phase = .reset ∧ t.cfg = false ∧ t.dir = 0x00#8 ∧ t.val = 0x00#8

/-- While CFG = 1, SCL and SDA_OUT are outputs and SDA_IN is an input (R34): every step keeps it. -/
def Obligations.DirectionsWhileConfigured : Prop :=
  ∀ s t : State, step s = .next t →
    (s.cfg = true → fieldScl s.dir = true ∧ fieldSdaOut s.dir = true ∧ fieldSdaIn s.dir = false) →
    (t.cfg = true → fieldScl t.dir = true ∧ fieldSdaOut t.dir = true ∧ fieldSdaIn t.dir = false)

/-- The clock setting lives in the adapter until the next SET_SPEED, OPEN or CLOSE (R164, R255): no other step changes
it, whatever succeeds or fails, for a SET_DIVISOR is in no TRANSACT's batch. That the adapter is in State is log entry
9. -/
def Obligations.ClockSettingLivesUntilReplaced : Prop :=
  (∀ s t : State, StateInv s → step s = .next t →
    t.adapter.clock = s.adapter.clock ∨
    (∃ div rest, commandAt s.outStream = some (.setDivisor div, rest) ∧ t.adapter.clock = .divisor div) ∨
    (∃ freq, s.req = some (.setSpeed freq)) ∧ s.phase = .clockset ∨
    (∃ channel pullUp, s.req = some (.openBus channel pullUp)) ∧ s.phase.interacts = true ∨
    s.req = some .closeBus ∧ s.phase = .reset) ∧
  ∀ (addr : U16) (w : List Byte) (rlen : Nat) (d : Byte) (s : State) (div : U16),
    .setDivisor div ∉ (build addr w rlen d s).batch

/-- Which request can return which status (R305): a meaning that brings a completion about gives it a status of the
table's row. -/
def Obligations.StatusesOfEachRequest : Prop :=
  ∀ (i : Instr) (s t : State) (c : Completion), exec i s = .next t → s.cpl = none → t.cpl = some c →
    i.isRequest = true ∧
    (c.status = .outOfRange → ∃ freq, i = .setSpeed freq) ∧
    (c.status = .unsupported → ∃ channel pullUp, i = .openBus channel pullUp) ∧
    (c.status = .nakReceived → ∃ addr w rlen, i = .transact addr w rlen) ∧
    (c.status = .transportError → i ≠ .clockPin ∧ i ≠ .dataPin)

/-- Which request makes which interaction (R304, R39), so that OPEN never calls the clock-set primitive and SET_SPEED
never writes a batch (R166, R255): a meaning adds at most one interaction to the history, one of its own. The history,
and when it is entered there, are the model's (log entries 21 and 24). -/
def Obligations.InteractionsOfEachRequest : Prop :=
  ∀ (i : Instr) (s t : State), exec i s = .next t →
    t.history = s.history ∨
    ∃ ix, t.history = s.history ++ [⟨s.serial, ix⟩] ∧
      match i with
      | .openBus _ _ => ix = .adpEnterI2C ∨ (∃ bytes, ix = .txWrite bytes) ∨ ix = .txFlush
      | .setSpeed freq => ix = .adpClockSet (Int.tdiv (freq * 2) 3)
      | .transact _ _ _ => ix = .txFlush ∨ (∃ bytes, ix = .txWrite bytes) ∨ ∃ n, ix = .txRead n
      | .closeBus => ix = .adpResetDefault
      | _ => False

/-- The lock (R40, R79, R250): while a request is in service no other request leaves `WAITQ`, the holder stays the holder,
and only the `DONE` step frees the lock. -/
def Obligations.LockIsHeldUntilDone : Prop :=
  ∀ (s t : State) (r : Nat), StateInv s → step s = .next t → s.lock = .held r →
    t.waitq = s.waitq ∧ (t.lock = .held r ∧ t.req = s.req ∨ s.phase = .done ∧ t.lock = .free ∧ t.phase = .ready)

/-- The batch is not changed after BUILD (R41, R89): while the request goes on it stands, and it is what its one write
puts on the outbound stream, from which nothing is taken but whole commands. The model's: that commands leave the stream
one a step, before the block's next phase (log entries 1 and 10), and that the bytes of a write that fails or is not
answered do not enter it (log entries 13 and 30). -/
def Obligations.BatchIsFixedAfterBuild : Prop :=
  ∀ s t : State, StateInv s → step s = .next t → s.phase.afterBuild = true →
    (t.batch = s.batch ∨ t.phase = .done ∧ t.batch = []) ∧
    (t.outStream = s.outStream ∨ s.phase = .write ∧ t.outStream = s.outStream ++ ser s.batch ∨
      ∃ c, emittable c = true ∧ s.outStream = encode c ++ t.outStream)

/-- What has happened is never undone: the history and the deliveries only grow, and the refused mark is kept for the
whole run (R306). The records are the model's (log entry 21), and so is the mark (log entry 7). -/
def Obligations.RecordsOnlyGrow : Prop :=
  ∀ s t : State, step s = .next t →
    s.history <+: t.history ∧ s.delivered <+: t.delivered ∧ (s.refused = true → t.refused = true)

/-- Clean runs (R306; the mark is log entry 7): if no request has been refused when a run ends, none had been at any
earlier step of it. -/
def Obligations.CleanRunsAreCleanThroughout : Prop :=
  ∀ (s t : State) (j k : Nat), CleanRun s k t → j ≤ k → ∃ u, CleanRun s j u ∧ Reaches u (k - j) t

/-- Requests that arrive during a service wait (R251, R250, D32): issuing one before a step of the request in service, or
after it, comes to the same. That requests arrive between steps is log entry 2. -/
def Obligations.ArrivalsDuringServiceWait : Prop :=
  ∀ (s t : State) (r : Nat) (frame : List Byte), StateInv s → s.phase ≠ .ready → s.phase ≠ .done → step s = .next t →
    step (s.issue r frame) = .next (t.issue r frame)

/-- `VAL` is written and never read (R35, R194): another value of it changes nothing of a step but `VAL` itself. -/
def Obligations.ValIsNeverRead : Prop :=
  ∀ (s t : State) (v : Byte), step s = .next t →
    ∃ v', step { s with val := v } = .next { t with val := v' }

/-- Instances are independent (R86, R262): steps of two of them commute, and a step of one leaves the others alone. Each
has an identity of its own at creation (R316), which no step changes; that it keeps their free values apart is log entry
33, the list of instances log entry 25. -/
def Obligations.InstancesAreIndependent : Prop :=
  (∀ n : Nat, ((instances n).map State.ident).Nodup) ∧
  ∀ (sys a b : List State) (j k : Nat), j ≠ k → stepInstance j sys = .next a → stepInstance k sys = .next b →
    (∀ m, m ≠ j → a[m]? = sys[m]?) ∧ a.map State.ident = sys.map State.ident ∧
    ∃ c, stepInstance k a = .next c ∧ stepInstance j b = .next c

/-! ## Whole requests -/

/-- A TRANSACT from issue to completion (R230 to R239, R347): with a transport that answers every interaction with
success, the interactions are flush, one write of the whole batch, flush, and a read of RCOUNT bytes; the completion is
NAK_RECEIVED if any acknowledgment byte is a NAK, else OK with the trailing bytes; the block is at rest again with CFG,
DIR and VAL as they were, and all the batch has been executed either way (log entry 10). The region of acknowledgment
bytes is empty where RCOUNT − rlen is negative, by the spec's decision D34. -/
def Obligations.TransactRunsToItsCompletion : Prop :=
  ∀ (s : State) (r : Nat) (frame : List Byte) (addr : U16) (w : List Byte) (rlen : Nat)
    (b0 b1 b2 response : List Byte) (later : List Answer),
    s.atRest → s.cfg = true → s.waitq[s.pick]? = some ⟨r, frame⟩ →
    requestOf frame = some (.transact addr w rlen) → addr.toNat ≤ 0x7F →
    s.answers = .ok b0 :: .ok b1 :: .ok b2 :: .ok response :: later →
    response.length = (build addr w rlen s.dir s).rcount →
    ∃ k t, Reaches s k t ∧ t.atRest ∧ t.transientsEmpty ∧ t.waitq = s.waitq.eraseIdx s.pick ∧ t.answers = later ∧
      t.cfg = s.cfg ∧ t.dir = s.dir ∧ t.val = s.val ∧ t.refused = s.refused ∧ t.serial = s.serial + 1 ∧
      t.history = s.history ++
        [⟨s.serial + 1, .txFlush⟩, ⟨s.serial + 1, .txWrite (ser (build addr w rlen s.dir s).batch)⟩,
          ⟨s.serial + 1, .txFlush⟩, ⟨s.serial + 1, .txRead response.length⟩] ∧
      t.delivered = s.delivered ++ [⟨r,
        if (response.take (response.length - rlen)).any (fun b => b.getLsbD 0) then ⟨.nakReceived, .rdata none⟩
        else ⟨.ok, .rdata (if w = [] ∨ rlen = 0 then none else some (response.drop (response.length - rlen)))⟩⟩]

/-- A TRANSACT whose transport fails, by an error or, at the read, by another number of bytes than RCOUNT (R232, R238,
R240, R307, D21; log entry 5): the interactions before the failure and the failing one are made
and no later one, the status is TRANSPORT_ERROR whatever the response would have held, and there is no result data. That
the outbound stream is empty at the end is the model's: no byte of a failed write enters it (log entry 13), and a written
batch is executed before the next phase (log entry 10). -/
def Obligations.TransactStopsAtTheFirstFailure : Prop :=
  ∀ (s : State) (r : Nat) (frame : List Byte) (addr : U16) (w : List Byte) (rlen : Nat)
    (good : List (List Byte)) (a : Answer) (later : List Answer),
    s.atRest → s.cfg = true → s.waitq[s.pick]? = some ⟨r, frame⟩ →
    requestOf frame = some (.transact addr w rlen) → addr.toNat ≤ 0x7F →
    good.length ≤ 3 → s.answers = good.map Answer.ok ++ a :: later →
    (a = .err ∨ good.length = 3 ∧ ∃ bs, a = .ok bs ∧ bs.length ≠ (build addr w rlen s.dir s).rcount) →
    ∃ k t, Reaches s k t ∧ t.atRest ∧ t.transientsEmpty ∧ t.waitq = s.waitq.eraseIdx s.pick ∧ t.answers = later ∧
      t.refused = s.refused ∧ t.cfg = s.cfg ∧ t.dir = s.dir ∧ t.val = s.val ∧
      t.history = s.history ++
        ([Interaction.txFlush, .txWrite (ser (build addr w rlen s.dir s).batch), .txFlush,
          .txRead (build addr w rlen s.dir s).rcount].take (good.length + 1)).map (PortRecord.mk (s.serial + 1)) ∧
      t.delivered = s.delivered ++ [⟨r, ⟨.transportError, .rdata none⟩⟩]

/-- An OPEN from issue to completion (R252, R341): I2C mode, one write of the divisor and the idle levels, one flush; then
CFG = 1, DIR and VAL as R341 says, and the adapter in I2C mode with divisor 49. That the written commands have been
executed by then is log entry 10, that the flush leaves the adapter as it was log entry 34. -/
def Obligations.OpenRunsToItsCompletion : Prop :=
  ∀ (s : State) (r : Nat) (frame : List Byte) (channel : Nat) (b0 b1 b2 : List Byte) (later : List Answer),
    s.atRest → s.cfg = false → s.waitq[s.pick]? = some ⟨r, frame⟩ →
    requestOf frame = some (.openBus channel false) → s.answers = .ok b0 :: .ok b1 :: .ok b2 :: later →
    ∃ k t, Reaches s k t ∧ t.atRest ∧ t.transientsEmpty ∧ t.waitq = s.waitq.eraseIdx s.pick ∧ t.answers = later ∧
      t.refused = s.refused ∧
      t.cfg = true ∧ t.dir = (Config.initUpperDir &&& 0xF8#8) ||| 0x03#8 ∧ t.val = Lv true true ∧
      t.adapter.i2cMode = true ∧ t.adapter.clock = .divisor 49#16 ∧ t.adapter.pinDir = openDir ∧
      t.adapter.pinOut = Lv true true ∧
      t.history = s.history ++
        [⟨s.serial + 1, .adpEnterI2C⟩,
          ⟨s.serial + 1, .txWrite (ser (.setDivisor 49#16 :: List.replicate 4 (.setPins (Lv true true) openDir)))⟩,
          ⟨s.serial + 1, .txFlush⟩] ∧
      t.delivered = s.delivered ++ [⟨r, ⟨.ok, .nothing⟩⟩]

/-- A CLOSE from issue to completion, configured or not (R256, R257; the masks cleared after a failure are the spec's
decision D17, the three steps log entry 1): it asks the adapter for its default configuration,
completes OK when that succeeds and with TRANSPORT_ERROR when it fails, and leaves the block ready for the next request
with CFG, DIR and VAL clear. -/
def Obligations.CloseRunsAlikeTheSecondTime : Prop :=
  ∀ (s : State) (r : Nat) (a : Answer) (later : List Answer), s.atRest → s.waitq[s.pick]? = some ⟨r, [0x04#8]⟩ →
    s.answers = a :: later →
    ∃ t, Reaches s 3 t ∧ t.atRest ∧ t.transientsEmpty ∧ t.waitq = s.waitq.eraseIdx s.pick ∧ t.answers = later ∧
      t.refused = s.refused ∧ t.cfg = false ∧ t.dir = 0x00#8 ∧ t.val = 0x00#8 ∧
      t.history = s.history ++ [⟨s.serial + 1, .adpResetDefault⟩] ∧
      t.delivered = s.delivered ++ [⟨r, ⟨if a = .err then .transportError else .ok, .nothing⟩⟩]

/-- CLOSE is idempotent in its effect on the adapter (R81): of two that succeed one after the other, whichever the lock
order serves first, the second leaves the adapter exactly as the first left it. What the first leaves is log entry 14; that
neither touches the inbound stream is log entry 34. The three steps of each are the model's (log entry 1). -/
def Obligations.SecondCloseLeavesTheAdapterAsItWas : Prop :=
  ∀ (s : State) (r q : Nat) (b0 b1 : List Byte) (later : List Answer), s.atRest →
    s.waitq = [⟨r, [0x04#8]⟩, ⟨q, [0x04#8]⟩] → s.answers = .ok b0 :: .ok b1 :: later →
    ∃ t u, Reaches s 3 t ∧ Reaches t 3 u ∧ t.atRest ∧ u.atRest ∧ u.waitq = [] ∧ u.answers = later ∧
      t.adapter.clock = .default ∧ t.adapter.pinDir = 0x00#8 ∧ t.adapter.i2cMode = false ∧ u.adapter = t.adapter ∧
      (u.delivered = s.delivered ++ [⟨r, ⟨.ok, .nothing⟩⟩, ⟨q, ⟨.ok, .nothing⟩⟩] ∨
        u.delivered = s.delivered ++ [⟨q, ⟨.ok, .nothing⟩⟩, ⟨r, ⟨.ok, .nothing⟩⟩])

/-- CLOCK_PIN and DATA_PIN from issue to completion (R260, R261, D24): in every state of CFG they complete OK with the
pin's index, and make no interaction. That it takes two steps is the model's (log entry 1). -/
def Obligations.PinIntrospectionRunsToItsCompletion : Prop :=
  ∀ (s : State) (r : Nat) (clock : Bool), s.atRest →
    s.waitq[s.pick]? = some ⟨r, [if clock then 0x05#8 else 0x06#8]⟩ →
    ∃ t, Reaches s 2 t ∧ t.atRest ∧ t.transientsEmpty ∧ t.waitq = s.waitq.eraseIdx s.pick ∧
      t.answers = s.answers ∧ t.refused = s.refused ∧ t.cfg = s.cfg ∧ t.dir = s.dir ∧ t.val = s.val ∧
      t.history = s.history ∧
      t.adapter = s.adapter ∧ t.delivered = s.delivered ++ [⟨r, ⟨.ok, .pin (if clock then 0 else 1)⟩⟩]

/-- Two requesters, one lock (R349, P5): with a TRANSACT and a CLOSE waiting together, whichever the lock order serves
first, the block ends not configured and the adapter was asked for its default configuration exactly once; either both
complete, the TRANSACT first, or the CLOSE completes and the TRANSACT is refused. The lock order is a free value (log
entry 6), the refused mark the model's (log entry 7). That the outbound stream is empty at the end, the batch executed,
is log entry 10. The region of acknowledgment bytes is empty where RCOUNT − rlen is negative, by the spec's decision
D34. -/
def Obligations.TransactAndCloseInEitherOrder : Prop :=
  ∀ (s : State) (a b : Nat) (frame : List Byte) (addr : U16) (w : List Byte) (rlen : Nat)
    (b0 b1 b2 response b3 : List Byte),
    s.atRest → s.cfg = true → s.waitq = [⟨a, frame⟩, ⟨b, [0x04#8]⟩] →
    requestOf frame = some (.transact addr w rlen) → addr.toNat ≤ 0x7F →
    s.answers = [.ok b0, .ok b1, .ok b2, .ok response, .ok b3] →
    response.length = (build addr w rlen s.dir s).rcount →
    ∃ k t, Reaches s k t ∧ t.atRest ∧ t.waitq = [] ∧ t.cfg = false ∧ t.dir = 0x00#8 ∧ t.val = 0x00#8 ∧
      (t.history.countP (fun e => e.ix = .adpResetDefault)) =
        s.history.countP (fun e => e.ix = .adpResetDefault) + 1 ∧
      ((∃ c, t.delivered = s.delivered ++ [⟨a, c⟩, ⟨b, ⟨.ok, .nothing⟩⟩] ∧ t.refused = s.refused ∧
          c.status =
            if (response.take (response.length - rlen)).any (fun b => b.getLsbD 0) then .nakReceived else .ok) ∨
        t.delivered = s.delivered ++ [⟨b, ⟨.ok, .nothing⟩⟩] ∧ t.refused = true)

/-- Bounded service (R310, D19): with an answer for each interaction, the request in service ends, its completion is
delivered, and the block is `READY` for the next request. A TRANSACT makes four interactions; the bound counts the phases
and the bytes the adapter executes meanwhile: steps of the model (log entries 1 and 10), with answers ready as log entry
4 holds them. -/
def Obligations.EveryRequestInServiceFinishes : Prop :=
  ∀ s : State, StateInv s → s.phase ≠ .ready → 4 ≤ s.answers.length →
    ∃ k t c, k ≤ 9 + s.outStream.length + s.batchBytes ∧ Reaches s k t ∧ t.phase = .ready ∧ t.lock = .free ∧ t.waitq = s.waitq ∧
      t.delivered = s.delivered ++ [⟨s.caller, c⟩] ∧
      ∀ i, s.req = some i → canReturn i c.status = true
end

