-- ==== Sys2Proof/Laws/State.lean ====
section
/-! SUPPORT. One lemma per field per update of State, so that no later proof unfolds a record update. -/

namespace Sys2Proof.Machine

/-! ## `State.issue` -/

@[simp] theorem State.issue_cfg (s : State) (r : Nat) (frame : List Byte) : (s.issue r frame).cfg = s.cfg := by unfold State.issue; split <;> rfl
@[simp] theorem State.issue_dir (s : State) (r : Nat) (frame : List Byte) : (s.issue r frame).dir = s.dir := by unfold State.issue; split <;> rfl
@[simp] theorem State.issue_val (s : State) (r : Nat) (frame : List Byte) : (s.issue r frame).val = s.val := by unfold State.issue; split <;> rfl
@[simp] theorem State.issue_phase (s : State) (r : Nat) (frame : List Byte) : (s.issue r frame).phase = s.phase := by unfold State.issue; split <;> rfl
@[simp] theorem State.issue_lock (s : State) (r : Nat) (frame : List Byte) : (s.issue r frame).lock = s.lock := by unfold State.issue; split <;> rfl
@[simp] theorem State.issue_batch (s : State) (r : Nat) (frame : List Byte) : (s.issue r frame).batch = s.batch := by unfold State.issue; split <;> rfl
@[simp] theorem State.issue_rcount (s : State) (r : Nat) (frame : List Byte) : (s.issue r frame).rcount = s.rcount := by unfold State.issue; split <;> rfl
@[simp] theorem State.issue_rdlen (s : State) (r : Nat) (frame : List Byte) : (s.issue r frame).rdlen = s.rdlen := by unfold State.issue; split <;> rfl
@[simp] theorem State.issue_resp (s : State) (r : Nat) (frame : List Byte) : (s.issue r frame).resp = s.resp := by unfold State.issue; split <;> rfl
@[simp] theorem State.issue_req (s : State) (r : Nat) (frame : List Byte) : (s.issue r frame).req = s.req := by unfold State.issue; split <;> rfl
@[simp] theorem State.issue_cpl (s : State) (r : Nat) (frame : List Byte) : (s.issue r frame).cpl = s.cpl := by unfold State.issue; split <;> rfl
@[simp] theorem State.issue_caller (s : State) (r : Nat) (frame : List Byte) : (s.issue r frame).caller = s.caller := by unfold State.issue; split <;> rfl
@[simp] theorem State.issue_awaiting (s : State) (r : Nat) (frame : List Byte) : (s.issue r frame).awaiting = s.awaiting := by unfold State.issue; split <;> rfl
@[simp] theorem State.issue_answers (s : State) (r : Nat) (frame : List Byte) : (s.issue r frame).answers = s.answers := by unfold State.issue; split <;> rfl
@[simp] theorem State.issue_outStream (s : State) (r : Nat) (frame : List Byte) : (s.issue r frame).outStream = s.outStream := by unfold State.issue; split <;> rfl
@[simp] theorem State.issue_adapter (s : State) (r : Nat) (frame : List Byte) : (s.issue r frame).adapter = s.adapter := by unfold State.issue; split <;> rfl
@[simp] theorem State.issue_history (s : State) (r : Nat) (frame : List Byte) : (s.issue r frame).history = s.history := by unfold State.issue; split <;> rfl
@[simp] theorem State.issue_delivered (s : State) (r : Nat) (frame : List Byte) : (s.issue r frame).delivered = s.delivered := by unfold State.issue; split <;> rfl
@[simp] theorem State.issue_refused (s : State) (r : Nat) (frame : List Byte) : (s.issue r frame).refused = s.refused := by unfold State.issue; split <;> rfl
@[simp] theorem State.issue_serial (s : State) (r : Nat) (frame : List Byte) : (s.issue r frame).serial = s.serial := by unfold State.issue; split <;> rfl
@[simp] theorem State.issue_draws (s : State) (r : Nat) (frame : List Byte) : (s.issue r frame).draws = s.draws := by unfold State.issue; split <;> rfl
@[simp] theorem State.issue_ident (s : State) (r : Nat) (frame : List Byte) : (s.issue r frame).ident = s.ident := by unfold State.issue; split <;> rfl

/-! ## `State.answer` -/

@[simp] theorem State.answer_cfg (s : State) (a : Answer) : (s.answer a).cfg = s.cfg := rfl
@[simp] theorem State.answer_dir (s : State) (a : Answer) : (s.answer a).dir = s.dir := rfl
@[simp] theorem State.answer_val (s : State) (a : Answer) : (s.answer a).val = s.val := rfl
@[simp] theorem State.answer_phase (s : State) (a : Answer) : (s.answer a).phase = s.phase := rfl
@[simp] theorem State.answer_lock (s : State) (a : Answer) : (s.answer a).lock = s.lock := rfl
@[simp] theorem State.answer_waitq (s : State) (a : Answer) : (s.answer a).waitq = s.waitq := rfl
@[simp] theorem State.answer_batch (s : State) (a : Answer) : (s.answer a).batch = s.batch := rfl
@[simp] theorem State.answer_rcount (s : State) (a : Answer) : (s.answer a).rcount = s.rcount := rfl
@[simp] theorem State.answer_rdlen (s : State) (a : Answer) : (s.answer a).rdlen = s.rdlen := rfl
@[simp] theorem State.answer_resp (s : State) (a : Answer) : (s.answer a).resp = s.resp := rfl
@[simp] theorem State.answer_req (s : State) (a : Answer) : (s.answer a).req = s.req := rfl
@[simp] theorem State.answer_cpl (s : State) (a : Answer) : (s.answer a).cpl = s.cpl := rfl
@[simp] theorem State.answer_caller (s : State) (a : Answer) : (s.answer a).caller = s.caller := rfl
@[simp] theorem State.answer_awaiting (s : State) (a : Answer) : (s.answer a).awaiting = s.awaiting := rfl
@[simp] theorem State.answer_answers (s : State) (a : Answer) :
    (s.answer a).answers = s.answers ++ [a] := rfl
@[simp] theorem State.answer_outStream (s : State) (a : Answer) : (s.answer a).outStream = s.outStream := rfl
@[simp] theorem State.answer_adapter (s : State) (a : Answer) : (s.answer a).adapter = s.adapter := rfl
@[simp] theorem State.answer_history (s : State) (a : Answer) : (s.answer a).history = s.history := rfl
@[simp] theorem State.answer_delivered (s : State) (a : Answer) : (s.answer a).delivered = s.delivered := rfl
@[simp] theorem State.answer_refused (s : State) (a : Answer) : (s.answer a).refused = s.refused := rfl
@[simp] theorem State.answer_serial (s : State) (a : Answer) : (s.answer a).serial = s.serial := rfl
@[simp] theorem State.answer_draws (s : State) (a : Answer) : (s.answer a).draws = s.draws := rfl
@[simp] theorem State.answer_ident (s : State) (a : Answer) : (s.answer a).ident = s.ident := rfl

/-! ## `State.take` -/

@[simp] theorem State.take_cfg (s : State) (i : Instr) : (s.take i).cfg = s.cfg := rfl
@[simp] theorem State.take_dir (s : State) (i : Instr) : (s.take i).dir = s.dir := rfl
@[simp] theorem State.take_val (s : State) (i : Instr) : (s.take i).val = s.val := rfl
@[simp] theorem State.take_phase (s : State) (i : Instr) : (s.take i).phase = s.phase := rfl
@[simp] theorem State.take_lock (s : State) (i : Instr) :
    (s.take i).lock = .held s.caller := rfl
@[simp] theorem State.take_waitq (s : State) (i : Instr) : (s.take i).waitq = s.waitq := rfl
@[simp] theorem State.take_batch (s : State) (i : Instr) :
    (s.take i).batch = [] := rfl
@[simp] theorem State.take_rcount (s : State) (i : Instr) :
    (s.take i).rcount = 0 := rfl
@[simp] theorem State.take_rdlen (s : State) (i : Instr) :
    (s.take i).rdlen = 0 := rfl
@[simp] theorem State.take_resp (s : State) (i : Instr) :
    (s.take i).resp = [] := rfl
@[simp] theorem State.take_req (s : State) (i : Instr) :
    (s.take i).req = some i := rfl
@[simp] theorem State.take_cpl (s : State) (i : Instr) :
    (s.take i).cpl = none := rfl
@[simp] theorem State.take_caller (s : State) (i : Instr) : (s.take i).caller = s.caller := rfl
@[simp] theorem State.take_awaiting (s : State) (i : Instr) :
    (s.take i).awaiting = false := rfl
@[simp] theorem State.take_answers (s : State) (i : Instr) : (s.take i).answers = s.answers := rfl
@[simp] theorem State.take_outStream (s : State) (i : Instr) : (s.take i).outStream = s.outStream := rfl
@[simp] theorem State.take_adapter (s : State) (i : Instr) : (s.take i).adapter = s.adapter := rfl
@[simp] theorem State.take_history (s : State) (i : Instr) : (s.take i).history = s.history := rfl
@[simp] theorem State.take_delivered (s : State) (i : Instr) : (s.take i).delivered = s.delivered := rfl
@[simp] theorem State.take_refused (s : State) (i : Instr) : (s.take i).refused = s.refused := rfl
@[simp] theorem State.take_serial (s : State) (i : Instr) :
    (s.take i).serial = s.serial + 1 := rfl
@[simp] theorem State.take_draws (s : State) (i : Instr) : (s.take i).draws = s.draws := rfl
@[simp] theorem State.take_ident (s : State) (i : Instr) : (s.take i).ident = s.ident := rfl

/-! ## `State.refuse` -/

@[simp] theorem State.refuse_cfg (s : State) : (s.refuse).cfg = s.cfg := rfl
@[simp] theorem State.refuse_dir (s : State) : (s.refuse).dir = s.dir := rfl
@[simp] theorem State.refuse_val (s : State) : (s.refuse).val = s.val := rfl
@[simp] theorem State.refuse_phase (s : State) : (s.refuse).phase = s.phase := rfl
@[simp] theorem State.refuse_lock (s : State) : (s.refuse).lock = s.lock := rfl
@[simp] theorem State.refuse_waitq (s : State) : (s.refuse).waitq = s.waitq := rfl
@[simp] theorem State.refuse_batch (s : State) : (s.refuse).batch = s.batch := rfl
@[simp] theorem State.refuse_rcount (s : State) : (s.refuse).rcount = s.rcount := rfl
@[simp] theorem State.refuse_rdlen (s : State) : (s.refuse).rdlen = s.rdlen := rfl
@[simp] theorem State.refuse_resp (s : State) : (s.refuse).resp = s.resp := rfl
@[simp] theorem State.refuse_req (s : State) : (s.refuse).req = s.req := rfl
@[simp] theorem State.refuse_cpl (s : State) : (s.refuse).cpl = s.cpl := rfl
@[simp] theorem State.refuse_caller (s : State) : (s.refuse).caller = s.caller := rfl
@[simp] theorem State.refuse_awaiting (s : State) : (s.refuse).awaiting = s.awaiting := rfl
@[simp] theorem State.refuse_answers (s : State) : (s.refuse).answers = s.answers := rfl
@[simp] theorem State.refuse_outStream (s : State) : (s.refuse).outStream = s.outStream := rfl
@[simp] theorem State.refuse_adapter (s : State) : (s.refuse).adapter = s.adapter := rfl
@[simp] theorem State.refuse_history (s : State) : (s.refuse).history = s.history := rfl
@[simp] theorem State.refuse_delivered (s : State) : (s.refuse).delivered = s.delivered := rfl
@[simp] theorem State.refuse_refused (s : State) :
    (s.refuse).refused = true := rfl
@[simp] theorem State.refuse_serial (s : State) : (s.refuse).serial = s.serial := rfl
@[simp] theorem State.refuse_draws (s : State) : (s.refuse).draws = s.draws := rfl
@[simp] theorem State.refuse_ident (s : State) : (s.refuse).ident = s.ident := rfl

/-! ## `State.clearTransients` -/

@[simp] theorem State.clearTransients_cfg (s : State) : (s.clearTransients).cfg = s.cfg := rfl
@[simp] theorem State.clearTransients_dir (s : State) : (s.clearTransients).dir = s.dir := rfl
@[simp] theorem State.clearTransients_val (s : State) : (s.clearTransients).val = s.val := rfl
@[simp] theorem State.clearTransients_phase (s : State) : (s.clearTransients).phase = s.phase := rfl
@[simp] theorem State.clearTransients_lock (s : State) : (s.clearTransients).lock = s.lock := rfl
@[simp] theorem State.clearTransients_waitq (s : State) : (s.clearTransients).waitq = s.waitq := rfl
@[simp] theorem State.clearTransients_batch (s : State) :
    (s.clearTransients).batch = [] := rfl
@[simp] theorem State.clearTransients_rcount (s : State) :
    (s.clearTransients).rcount = 0 := rfl
@[simp] theorem State.clearTransients_rdlen (s : State) :
    (s.clearTransients).rdlen = 0 := rfl
@[simp] theorem State.clearTransients_resp (s : State) :
    (s.clearTransients).resp = [] := rfl
@[simp] theorem State.clearTransients_req (s : State) : (s.clearTransients).req = s.req := rfl
@[simp] theorem State.clearTransients_cpl (s : State) : (s.clearTransients).cpl = s.cpl := rfl
@[simp] theorem State.clearTransients_caller (s : State) : (s.clearTransients).caller = s.caller := rfl
@[simp] theorem State.clearTransients_awaiting (s : State) : (s.clearTransients).awaiting = s.awaiting := rfl
@[simp] theorem State.clearTransients_answers (s : State) : (s.clearTransients).answers = s.answers := rfl
@[simp] theorem State.clearTransients_outStream (s : State) : (s.clearTransients).outStream = s.outStream := rfl
@[simp] theorem State.clearTransients_adapter (s : State) : (s.clearTransients).adapter = s.adapter := rfl
@[simp] theorem State.clearTransients_history (s : State) : (s.clearTransients).history = s.history := rfl
@[simp] theorem State.clearTransients_delivered (s : State) : (s.clearTransients).delivered = s.delivered := rfl
@[simp] theorem State.clearTransients_refused (s : State) : (s.clearTransients).refused = s.refused := rfl
@[simp] theorem State.clearTransients_serial (s : State) : (s.clearTransients).serial = s.serial := rfl
@[simp] theorem State.clearTransients_draws (s : State) : (s.clearTransients).draws = s.draws := rfl
@[simp] theorem State.clearTransients_ident (s : State) : (s.clearTransients).ident = s.ident := rfl

/-! ## `State.complete` -/

@[simp] theorem State.complete_cfg (s : State) (data : CplData) : (s.complete data).cfg = s.cfg := rfl
@[simp] theorem State.complete_dir (s : State) (data : CplData) : (s.complete data).dir = s.dir := rfl
@[simp] theorem State.complete_val (s : State) (data : CplData) : (s.complete data).val = s.val := rfl
@[simp] theorem State.complete_phase (s : State) (data : CplData) :
    (s.complete data).phase = .done := rfl
@[simp] theorem State.complete_lock (s : State) (data : CplData) : (s.complete data).lock = s.lock := rfl
@[simp] theorem State.complete_waitq (s : State) (data : CplData) : (s.complete data).waitq = s.waitq := rfl
@[simp] theorem State.complete_batch (s : State) (data : CplData) : (s.complete data).batch = s.batch := rfl
@[simp] theorem State.complete_rcount (s : State) (data : CplData) : (s.complete data).rcount = s.rcount := rfl
@[simp] theorem State.complete_rdlen (s : State) (data : CplData) : (s.complete data).rdlen = s.rdlen := rfl
@[simp] theorem State.complete_resp (s : State) (data : CplData) : (s.complete data).resp = s.resp := rfl
@[simp] theorem State.complete_req (s : State) (data : CplData) : (s.complete data).req = s.req := rfl
@[simp] theorem State.complete_cpl (s : State) (data : CplData) :
    (s.complete data).cpl = some { status := .ok, data := data } := rfl
@[simp] theorem State.complete_caller (s : State) (data : CplData) : (s.complete data).caller = s.caller := rfl
@[simp] theorem State.complete_awaiting (s : State) (data : CplData) : (s.complete data).awaiting = s.awaiting := rfl
@[simp] theorem State.complete_answers (s : State) (data : CplData) : (s.complete data).answers = s.answers := rfl
@[simp] theorem State.complete_outStream (s : State) (data : CplData) : (s.complete data).outStream = s.outStream := rfl
@[simp] theorem State.complete_adapter (s : State) (data : CplData) : (s.complete data).adapter = s.adapter := rfl
@[simp] theorem State.complete_history (s : State) (data : CplData) : (s.complete data).history = s.history := rfl
@[simp] theorem State.complete_delivered (s : State) (data : CplData) : (s.complete data).delivered = s.delivered := rfl
@[simp] theorem State.complete_refused (s : State) (data : CplData) : (s.complete data).refused = s.refused := rfl
@[simp] theorem State.complete_serial (s : State) (data : CplData) : (s.complete data).serial = s.serial := rfl
@[simp] theorem State.complete_draws (s : State) (data : CplData) : (s.complete data).draws = s.draws := rfl
@[simp] theorem State.complete_ident (s : State) (data : CplData) : (s.complete data).ident = s.ident := rfl

/-! ## `State.raise` -/

@[simp] theorem State.raise_cfg (s : State) (i : Instr) (st : Status) : (s.raise i st).cfg = s.cfg := rfl
@[simp] theorem State.raise_dir (s : State) (i : Instr) (st : Status) : (s.raise i st).dir = s.dir := rfl
@[simp] theorem State.raise_val (s : State) (i : Instr) (st : Status) : (s.raise i st).val = s.val := rfl
@[simp] theorem State.raise_phase (s : State) (i : Instr) (st : Status) :
    (s.raise i st).phase = .done := rfl
@[simp] theorem State.raise_lock (s : State) (i : Instr) (st : Status) : (s.raise i st).lock = s.lock := rfl
@[simp] theorem State.raise_waitq (s : State) (i : Instr) (st : Status) : (s.raise i st).waitq = s.waitq := rfl
@[simp] theorem State.raise_batch (s : State) (i : Instr) (st : Status) :
    (s.raise i st).batch = [] := rfl
@[simp] theorem State.raise_rcount (s : State) (i : Instr) (st : Status) :
    (s.raise i st).rcount = 0 := rfl
@[simp] theorem State.raise_rdlen (s : State) (i : Instr) (st : Status) :
    (s.raise i st).rdlen = 0 := rfl
@[simp] theorem State.raise_resp (s : State) (i : Instr) (st : Status) :
    (s.raise i st).resp = [] := rfl
@[simp] theorem State.raise_req (s : State) (i : Instr) (st : Status) : (s.raise i st).req = s.req := rfl
@[simp] theorem State.raise_cpl (s : State) (i : Instr) (st : Status) :
    (s.raise i st).cpl = some { status := st, data := errorData i } := rfl
@[simp] theorem State.raise_caller (s : State) (i : Instr) (st : Status) : (s.raise i st).caller = s.caller := rfl
@[simp] theorem State.raise_awaiting (s : State) (i : Instr) (st : Status) : (s.raise i st).awaiting = s.awaiting := rfl
@[simp] theorem State.raise_answers (s : State) (i : Instr) (st : Status) : (s.raise i st).answers = s.answers := rfl
@[simp] theorem State.raise_outStream (s : State) (i : Instr) (st : Status) : (s.raise i st).outStream = s.outStream := rfl
@[simp] theorem State.raise_adapter (s : State) (i : Instr) (st : Status) : (s.raise i st).adapter = s.adapter := rfl
@[simp] theorem State.raise_history (s : State) (i : Instr) (st : Status) : (s.raise i st).history = s.history := rfl
@[simp] theorem State.raise_delivered (s : State) (i : Instr) (st : Status) : (s.raise i st).delivered = s.delivered := rfl
@[simp] theorem State.raise_refused (s : State) (i : Instr) (st : Status) : (s.raise i st).refused = s.refused := rfl
@[simp] theorem State.raise_serial (s : State) (i : Instr) (st : Status) : (s.raise i st).serial = s.serial := rfl
@[simp] theorem State.raise_draws (s : State) (i : Instr) (st : Status) : (s.raise i st).draws = s.draws := rfl
@[simp] theorem State.raise_ident (s : State) (i : Instr) (st : Status) : (s.raise i st).ident = s.ident := rfl

/-! ## `State.release` -/

@[simp] theorem State.release_cfg (s : State) : (s.release).cfg = s.cfg := rfl
@[simp] theorem State.release_dir (s : State) : (s.release).dir = s.dir := rfl
@[simp] theorem State.release_val (s : State) : (s.release).val = s.val := rfl
@[simp] theorem State.release_phase (s : State) :
    (s.release).phase = .ready := rfl
@[simp] theorem State.release_lock (s : State) :
    (s.release).lock = .free := rfl
@[simp] theorem State.release_waitq (s : State) : (s.release).waitq = s.waitq := rfl
@[simp] theorem State.release_batch (s : State) :
    (s.release).batch = [] := rfl
@[simp] theorem State.release_rcount (s : State) :
    (s.release).rcount = 0 := rfl
@[simp] theorem State.release_rdlen (s : State) :
    (s.release).rdlen = 0 := rfl
@[simp] theorem State.release_resp (s : State) :
    (s.release).resp = [] := rfl
@[simp] theorem State.release_req (s : State) :
    (s.release).req = none := rfl
@[simp] theorem State.release_cpl (s : State) :
    (s.release).cpl = none := rfl
@[simp] theorem State.release_caller (s : State) : (s.release).caller = s.caller := rfl
@[simp] theorem State.release_awaiting (s : State) : (s.release).awaiting = s.awaiting := rfl
@[simp] theorem State.release_answers (s : State) : (s.release).answers = s.answers := rfl
@[simp] theorem State.release_outStream (s : State) : (s.release).outStream = s.outStream := rfl
@[simp] theorem State.release_adapter (s : State) : (s.release).adapter = s.adapter := rfl
@[simp] theorem State.release_history (s : State) : (s.release).history = s.history := rfl
@[simp] theorem State.release_delivered (s : State) :
    (s.release).delivered = s.delivered ++ s.deliveries := rfl
@[simp] theorem State.release_refused (s : State) : (s.release).refused = s.refused := rfl
@[simp] theorem State.release_serial (s : State) : (s.release).serial = s.serial := rfl
@[simp] theorem State.release_draws (s : State) : (s.release).draws = s.draws := rfl
@[simp] theorem State.release_ident (s : State) : (s.release).ident = s.ident := rfl

/-! ## `State.emitAll` -/

@[simp] theorem State.emitAll_cfg (s : State) (cs : List Instr) : (s.emitAll cs).cfg = s.cfg := rfl
@[simp] theorem State.emitAll_dir (s : State) (cs : List Instr) : (s.emitAll cs).dir = s.dir := rfl
@[simp] theorem State.emitAll_val (s : State) (cs : List Instr) : (s.emitAll cs).val = s.val := rfl
@[simp] theorem State.emitAll_phase (s : State) (cs : List Instr) : (s.emitAll cs).phase = s.phase := rfl
@[simp] theorem State.emitAll_lock (s : State) (cs : List Instr) : (s.emitAll cs).lock = s.lock := rfl
@[simp] theorem State.emitAll_waitq (s : State) (cs : List Instr) : (s.emitAll cs).waitq = s.waitq := rfl
@[simp] theorem State.emitAll_batch (s : State) (cs : List Instr) :
    (s.emitAll cs).batch = s.batch ++ cs := rfl
@[simp] theorem State.emitAll_rcount (s : State) (cs : List Instr) : (s.emitAll cs).rcount = s.rcount := rfl
@[simp] theorem State.emitAll_rdlen (s : State) (cs : List Instr) : (s.emitAll cs).rdlen = s.rdlen := rfl
@[simp] theorem State.emitAll_resp (s : State) (cs : List Instr) : (s.emitAll cs).resp = s.resp := rfl
@[simp] theorem State.emitAll_req (s : State) (cs : List Instr) : (s.emitAll cs).req = s.req := rfl
@[simp] theorem State.emitAll_cpl (s : State) (cs : List Instr) : (s.emitAll cs).cpl = s.cpl := rfl
@[simp] theorem State.emitAll_caller (s : State) (cs : List Instr) : (s.emitAll cs).caller = s.caller := rfl
@[simp] theorem State.emitAll_awaiting (s : State) (cs : List Instr) : (s.emitAll cs).awaiting = s.awaiting := rfl
@[simp] theorem State.emitAll_answers (s : State) (cs : List Instr) : (s.emitAll cs).answers = s.answers := rfl
@[simp] theorem State.emitAll_outStream (s : State) (cs : List Instr) : (s.emitAll cs).outStream = s.outStream := rfl
@[simp] theorem State.emitAll_adapter (s : State) (cs : List Instr) : (s.emitAll cs).adapter = s.adapter := rfl
@[simp] theorem State.emitAll_history (s : State) (cs : List Instr) : (s.emitAll cs).history = s.history := rfl
@[simp] theorem State.emitAll_delivered (s : State) (cs : List Instr) : (s.emitAll cs).delivered = s.delivered := rfl
@[simp] theorem State.emitAll_refused (s : State) (cs : List Instr) : (s.emitAll cs).refused = s.refused := rfl
@[simp] theorem State.emitAll_serial (s : State) (cs : List Instr) : (s.emitAll cs).serial = s.serial := rfl
@[simp] theorem State.emitAll_draws (s : State) (cs : List Instr) : (s.emitAll cs).draws = s.draws := rfl
@[simp] theorem State.emitAll_ident (s : State) (cs : List Instr) : (s.emitAll cs).ident = s.ident := rfl

/-! ## `State.issued` -/

@[simp] theorem State.issued_cfg (s : State) (ix : Interaction) : (s.issued ix).cfg = s.cfg := by unfold State.issued; split <;> rfl
@[simp] theorem State.issued_dir (s : State) (ix : Interaction) : (s.issued ix).dir = s.dir := by unfold State.issued; split <;> rfl
@[simp] theorem State.issued_val (s : State) (ix : Interaction) : (s.issued ix).val = s.val := by unfold State.issued; split <;> rfl
@[simp] theorem State.issued_phase (s : State) (ix : Interaction) : (s.issued ix).phase = s.phase := by unfold State.issued; split <;> rfl
@[simp] theorem State.issued_lock (s : State) (ix : Interaction) : (s.issued ix).lock = s.lock := by unfold State.issued; split <;> rfl
@[simp] theorem State.issued_waitq (s : State) (ix : Interaction) : (s.issued ix).waitq = s.waitq := by unfold State.issued; split <;> rfl
@[simp] theorem State.issued_batch (s : State) (ix : Interaction) : (s.issued ix).batch = s.batch := by unfold State.issued; split <;> rfl
@[simp] theorem State.issued_rcount (s : State) (ix : Interaction) : (s.issued ix).rcount = s.rcount := by unfold State.issued; split <;> rfl
@[simp] theorem State.issued_rdlen (s : State) (ix : Interaction) : (s.issued ix).rdlen = s.rdlen := by unfold State.issued; split <;> rfl
@[simp] theorem State.issued_resp (s : State) (ix : Interaction) : (s.issued ix).resp = s.resp := by unfold State.issued; split <;> rfl
@[simp] theorem State.issued_req (s : State) (ix : Interaction) : (s.issued ix).req = s.req := by unfold State.issued; split <;> rfl
@[simp] theorem State.issued_cpl (s : State) (ix : Interaction) : (s.issued ix).cpl = s.cpl := by unfold State.issued; split <;> rfl
@[simp] theorem State.issued_caller (s : State) (ix : Interaction) : (s.issued ix).caller = s.caller := by unfold State.issued; split <;> rfl
@[simp] theorem State.issued_answers (s : State) (ix : Interaction) : (s.issued ix).answers = s.answers := by unfold State.issued; split <;> rfl
@[simp] theorem State.issued_outStream (s : State) (ix : Interaction) : (s.issued ix).outStream = s.outStream := by unfold State.issued; split <;> rfl
@[simp] theorem State.issued_adapter (s : State) (ix : Interaction) : (s.issued ix).adapter = s.adapter := by unfold State.issued; split <;> rfl
@[simp] theorem State.issued_delivered (s : State) (ix : Interaction) : (s.issued ix).delivered = s.delivered := by unfold State.issued; split <;> rfl
@[simp] theorem State.issued_refused (s : State) (ix : Interaction) : (s.issued ix).refused = s.refused := by unfold State.issued; split <;> rfl
@[simp] theorem State.issued_serial (s : State) (ix : Interaction) : (s.issued ix).serial = s.serial := by unfold State.issued; split <;> rfl
@[simp] theorem State.issued_draws (s : State) (ix : Interaction) : (s.issued ix).draws = s.draws := by unfold State.issued; split <;> rfl
@[simp] theorem State.issued_ident (s : State) (ix : Interaction) : (s.issued ix).ident = s.ident := by unfold State.issued; split <;> rfl

/-! ## `State.succeeded` -/

@[simp] theorem State.succeeded_cfg (s : State) (ix : Interaction) : (s.succeeded ix).cfg = s.cfg := rfl
@[simp] theorem State.succeeded_dir (s : State) (ix : Interaction) : (s.succeeded ix).dir = s.dir := rfl
@[simp] theorem State.succeeded_val (s : State) (ix : Interaction) : (s.succeeded ix).val = s.val := rfl
@[simp] theorem State.succeeded_phase (s : State) (ix : Interaction) : (s.succeeded ix).phase = s.phase := rfl
@[simp] theorem State.succeeded_lock (s : State) (ix : Interaction) : (s.succeeded ix).lock = s.lock := rfl
@[simp] theorem State.succeeded_waitq (s : State) (ix : Interaction) : (s.succeeded ix).waitq = s.waitq := rfl
@[simp] theorem State.succeeded_batch (s : State) (ix : Interaction) : (s.succeeded ix).batch = s.batch := rfl
@[simp] theorem State.succeeded_rcount (s : State) (ix : Interaction) : (s.succeeded ix).rcount = s.rcount := rfl
@[simp] theorem State.succeeded_rdlen (s : State) (ix : Interaction) : (s.succeeded ix).rdlen = s.rdlen := rfl
@[simp] theorem State.succeeded_resp (s : State) (ix : Interaction) : (s.succeeded ix).resp = s.resp := rfl
@[simp] theorem State.succeeded_req (s : State) (ix : Interaction) : (s.succeeded ix).req = s.req := rfl
@[simp] theorem State.succeeded_cpl (s : State) (ix : Interaction) : (s.succeeded ix).cpl = s.cpl := rfl
@[simp] theorem State.succeeded_caller (s : State) (ix : Interaction) : (s.succeeded ix).caller = s.caller := rfl
@[simp] theorem State.succeeded_awaiting (s : State) (ix : Interaction) :
    (s.succeeded ix).awaiting = false := rfl
@[simp] theorem State.succeeded_answers (s : State) (ix : Interaction) : (s.succeeded ix).answers = s.answers := rfl
@[simp] theorem State.succeeded_outStream (s : State) (ix : Interaction) :
    (s.succeeded ix).outStream = s.outStream ++ written ix := rfl
@[simp] theorem State.succeeded_adapter (s : State) (ix : Interaction) :
    (s.succeeded ix).adapter = adapterAfter s.ident s.adapter ix := rfl
@[simp] theorem State.succeeded_history (s : State) (ix : Interaction) : (s.succeeded ix).history = s.history := rfl
@[simp] theorem State.succeeded_delivered (s : State) (ix : Interaction) : (s.succeeded ix).delivered = s.delivered := rfl
@[simp] theorem State.succeeded_refused (s : State) (ix : Interaction) : (s.succeeded ix).refused = s.refused := rfl
@[simp] theorem State.succeeded_serial (s : State) (ix : Interaction) : (s.succeeded ix).serial = s.serial := rfl
@[simp] theorem State.succeeded_draws (s : State) (ix : Interaction) :
    (s.succeeded ix).draws = s.draws + 1 := rfl
@[simp] theorem State.succeeded_ident (s : State) (ix : Interaction) : (s.succeeded ix).ident = s.ident := rfl

/-! ## `State.failed` -/

@[simp] theorem State.failed_cfg (s : State) (i : Instr) (ix : Interaction) : (s.failed i ix).cfg = s.cfg := rfl
@[simp] theorem State.failed_dir (s : State) (i : Instr) (ix : Interaction) : (s.failed i ix).dir = s.dir := rfl
@[simp] theorem State.failed_val (s : State) (i : Instr) (ix : Interaction) : (s.failed i ix).val = s.val := rfl
@[simp] theorem State.failed_phase (s : State) (i : Instr) (ix : Interaction) : (s.failed i ix).phase = s.phase := rfl
@[simp] theorem State.failed_lock (s : State) (i : Instr) (ix : Interaction) : (s.failed i ix).lock = s.lock := rfl
@[simp] theorem State.failed_waitq (s : State) (i : Instr) (ix : Interaction) : (s.failed i ix).waitq = s.waitq := rfl
@[simp] theorem State.failed_batch (s : State) (i : Instr) (ix : Interaction) : (s.failed i ix).batch = s.batch := rfl
@[simp] theorem State.failed_rcount (s : State) (i : Instr) (ix : Interaction) : (s.failed i ix).rcount = s.rcount := rfl
@[simp] theorem State.failed_rdlen (s : State) (i : Instr) (ix : Interaction) : (s.failed i ix).rdlen = s.rdlen := rfl
@[simp] theorem State.failed_resp (s : State) (i : Instr) (ix : Interaction) : (s.failed i ix).resp = s.resp := rfl
@[simp] theorem State.failed_req (s : State) (i : Instr) (ix : Interaction) : (s.failed i ix).req = s.req := rfl
@[simp] theorem State.failed_cpl (s : State) (i : Instr) (ix : Interaction) : (s.failed i ix).cpl = s.cpl := rfl
@[simp] theorem State.failed_caller (s : State) (i : Instr) (ix : Interaction) : (s.failed i ix).caller = s.caller := rfl
@[simp] theorem State.failed_awaiting (s : State) (i : Instr) (ix : Interaction) :
    (s.failed i ix).awaiting = false := rfl
@[simp] theorem State.failed_answers (s : State) (i : Instr) (ix : Interaction) : (s.failed i ix).answers = s.answers := rfl
@[simp] theorem State.failed_outStream (s : State) (i : Instr) (ix : Interaction) : (s.failed i ix).outStream = s.outStream := rfl
@[simp] theorem State.failed_adapter (s : State) (i : Instr) (ix : Interaction) :
    (s.failed i ix).adapter = s.adapter.afterFailure (Config.adapterAfterFailure s.ident s.draws) i ix := rfl
@[simp] theorem State.failed_history (s : State) (i : Instr) (ix : Interaction) : (s.failed i ix).history = s.history := rfl
@[simp] theorem State.failed_delivered (s : State) (i : Instr) (ix : Interaction) : (s.failed i ix).delivered = s.delivered := rfl
@[simp] theorem State.failed_refused (s : State) (i : Instr) (ix : Interaction) : (s.failed i ix).refused = s.refused := rfl
@[simp] theorem State.failed_serial (s : State) (i : Instr) (ix : Interaction) : (s.failed i ix).serial = s.serial := rfl
@[simp] theorem State.failed_draws (s : State) (i : Instr) (ix : Interaction) :
    (s.failed i ix).draws = s.draws + 1 := rfl
@[simp] theorem State.failed_ident (s : State) (i : Instr) (ix : Interaction) : (s.failed i ix).ident = s.ident := rfl

/-! ## `State.configured` -/

@[simp] theorem State.configured_cfg (s : State) :
    (s.configured).cfg = true := rfl
@[simp] theorem State.configured_dir (s : State) :
    (s.configured).dir = openDir := rfl
@[simp] theorem State.configured_val (s : State) :
    (s.configured).val = Lv true true := rfl
@[simp] theorem State.configured_phase (s : State) : (s.configured).phase = s.phase := rfl
@[simp] theorem State.configured_lock (s : State) : (s.configured).lock = s.lock := rfl
@[simp] theorem State.configured_waitq (s : State) : (s.configured).waitq = s.waitq := rfl
@[simp] theorem State.configured_batch (s : State) : (s.configured).batch = s.batch := rfl
@[simp] theorem State.configured_rcount (s : State) : (s.configured).rcount = s.rcount := rfl
@[simp] theorem State.configured_rdlen (s : State) : (s.configured).rdlen = s.rdlen := rfl
@[simp] theorem State.configured_resp (s : State) : (s.configured).resp = s.resp := rfl
@[simp] theorem State.configured_req (s : State) : (s.configured).req = s.req := rfl
@[simp] theorem State.configured_cpl (s : State) : (s.configured).cpl = s.cpl := rfl
@[simp] theorem State.configured_caller (s : State) : (s.configured).caller = s.caller := rfl
@[simp] theorem State.configured_awaiting (s : State) : (s.configured).awaiting = s.awaiting := rfl
@[simp] theorem State.configured_answers (s : State) : (s.configured).answers = s.answers := rfl
@[simp] theorem State.configured_outStream (s : State) : (s.configured).outStream = s.outStream := rfl
@[simp] theorem State.configured_adapter (s : State) : (s.configured).adapter = s.adapter := rfl
@[simp] theorem State.configured_history (s : State) : (s.configured).history = s.history := rfl
@[simp] theorem State.configured_delivered (s : State) : (s.configured).delivered = s.delivered := rfl
@[simp] theorem State.configured_refused (s : State) : (s.configured).refused = s.refused := rfl
@[simp] theorem State.configured_serial (s : State) : (s.configured).serial = s.serial := rfl
@[simp] theorem State.configured_draws (s : State) : (s.configured).draws = s.draws := rfl
@[simp] theorem State.configured_ident (s : State) : (s.configured).ident = s.ident := rfl

/-! ## `State.deconfigured` -/

@[simp] theorem State.deconfigured_cfg (s : State) :
    (s.deconfigured).cfg = false := rfl
@[simp] theorem State.deconfigured_dir (s : State) :
    (s.deconfigured).dir = 0x00#8 := rfl
@[simp] theorem State.deconfigured_val (s : State) :
    (s.deconfigured).val = 0x00#8 := rfl
@[simp] theorem State.deconfigured_phase (s : State) : (s.deconfigured).phase = s.phase := rfl
@[simp] theorem State.deconfigured_lock (s : State) : (s.deconfigured).lock = s.lock := rfl
@[simp] theorem State.deconfigured_waitq (s : State) : (s.deconfigured).waitq = s.waitq := rfl
@[simp] theorem State.deconfigured_batch (s : State) : (s.deconfigured).batch = s.batch := rfl
@[simp] theorem State.deconfigured_rcount (s : State) : (s.deconfigured).rcount = s.rcount := rfl
@[simp] theorem State.deconfigured_rdlen (s : State) : (s.deconfigured).rdlen = s.rdlen := rfl
@[simp] theorem State.deconfigured_resp (s : State) : (s.deconfigured).resp = s.resp := rfl
@[simp] theorem State.deconfigured_req (s : State) : (s.deconfigured).req = s.req := rfl
@[simp] theorem State.deconfigured_cpl (s : State) : (s.deconfigured).cpl = s.cpl := rfl
@[simp] theorem State.deconfigured_caller (s : State) : (s.deconfigured).caller = s.caller := rfl
@[simp] theorem State.deconfigured_awaiting (s : State) : (s.deconfigured).awaiting = s.awaiting := rfl
@[simp] theorem State.deconfigured_answers (s : State) : (s.deconfigured).answers = s.answers := rfl
@[simp] theorem State.deconfigured_outStream (s : State) : (s.deconfigured).outStream = s.outStream := rfl
@[simp] theorem State.deconfigured_adapter (s : State) : (s.deconfigured).adapter = s.adapter := rfl
@[simp] theorem State.deconfigured_history (s : State) : (s.deconfigured).history = s.history := rfl
@[simp] theorem State.deconfigured_delivered (s : State) : (s.deconfigured).delivered = s.delivered := rfl
@[simp] theorem State.deconfigured_refused (s : State) : (s.deconfigured).refused = s.refused := rfl
@[simp] theorem State.deconfigured_serial (s : State) : (s.deconfigured).serial = s.serial := rfl
@[simp] theorem State.deconfigured_draws (s : State) : (s.deconfigured).draws = s.draws := rfl
@[simp] theorem State.deconfigured_ident (s : State) : (s.deconfigured).ident = s.ident := rfl

/-! ## `State.present` -/

@[simp] theorem State.present_cfg (s : State) (k r : Nat) : (s.present k r).cfg = s.cfg := rfl
@[simp] theorem State.present_dir (s : State) (k r : Nat) : (s.present k r).dir = s.dir := rfl
@[simp] theorem State.present_val (s : State) (k r : Nat) : (s.present k r).val = s.val := rfl
@[simp] theorem State.present_phase (s : State) (k r : Nat) : (s.present k r).phase = s.phase := rfl
@[simp] theorem State.present_lock (s : State) (k r : Nat) : (s.present k r).lock = s.lock := rfl
@[simp] theorem State.present_waitq (s : State) (k r : Nat) :
    (s.present k r).waitq = s.waitq.eraseIdx k := rfl
@[simp] theorem State.present_batch (s : State) (k r : Nat) : (s.present k r).batch = s.batch := rfl
@[simp] theorem State.present_rcount (s : State) (k r : Nat) : (s.present k r).rcount = s.rcount := rfl
@[simp] theorem State.present_rdlen (s : State) (k r : Nat) : (s.present k r).rdlen = s.rdlen := rfl
@[simp] theorem State.present_resp (s : State) (k r : Nat) : (s.present k r).resp = s.resp := rfl
@[simp] theorem State.present_req (s : State) (k r : Nat) : (s.present k r).req = s.req := rfl
@[simp] theorem State.present_cpl (s : State) (k r : Nat) : (s.present k r).cpl = s.cpl := rfl
@[simp] theorem State.present_caller (s : State) (k r : Nat) :
    (s.present k r).caller = r := rfl
@[simp] theorem State.present_awaiting (s : State) (k r : Nat) : (s.present k r).awaiting = s.awaiting := rfl
@[simp] theorem State.present_answers (s : State) (k r : Nat) : (s.present k r).answers = s.answers := rfl
@[simp] theorem State.present_outStream (s : State) (k r : Nat) : (s.present k r).outStream = s.outStream := rfl
@[simp] theorem State.present_adapter (s : State) (k r : Nat) : (s.present k r).adapter = s.adapter := rfl
@[simp] theorem State.present_history (s : State) (k r : Nat) : (s.present k r).history = s.history := rfl
@[simp] theorem State.present_delivered (s : State) (k r : Nat) : (s.present k r).delivered = s.delivered := rfl
@[simp] theorem State.present_refused (s : State) (k r : Nat) : (s.present k r).refused = s.refused := rfl
@[simp] theorem State.present_serial (s : State) (k r : Nat) : (s.present k r).serial = s.serial := rfl
@[simp] theorem State.present_draws (s : State) (k r : Nat) :
    (s.present k r).draws = s.draws + 1 := rfl
@[simp] theorem State.present_ident (s : State) (k r : Nat) : (s.present k r).ident = s.ident := rfl

/-- An interaction issued is outstanding. -/
@[simp] theorem State.issued_awaiting (s : State) (ix : Interaction) : (s.issued ix).awaiting = true := by
  unfold State.issued; split <;> simp_all

/-- Issuing enters the interaction in the history once, under the serial number of the request in service. -/
theorem State.issued_history (s : State) (ix : Interaction) :
    (s.issued ix).history =
      if s.awaiting then s.history else s.history ++ [{ serial := s.serial, ix := ix }] := by
  unfold State.issued; split <;> rfl

/-- A requester with nothing outstanding puts its frame in `WAITQ`. -/
theorem State.issue_waitq (s : State) (r : Nat) (frame : List Byte) :
    (s.issue r frame).waitq =
      if s.outstanding r then s.waitq else s.waitq ++ [{ requester := r, frame := frame }] := by
  unfold State.issue; split <;> rfl

/-- Two states that agree field by field are one: an equation of states is proved field by field. -/
theorem State.ext_fields {s t : State} (h1 : s.cfg = t.cfg) (h2 : s.dir = t.dir) (h3 : s.val = t.val)
    (h4 : s.phase = t.phase) (h5 : s.lock = t.lock) (h6 : s.waitq = t.waitq) (h7 : s.batch = t.batch)
    (h8 : s.rcount = t.rcount) (h9 : s.rdlen = t.rdlen) (h10 : s.resp = t.resp) (h11 : s.req = t.req)
    (h12 : s.cpl = t.cpl) (h13 : s.caller = t.caller) (h14 : s.awaiting = t.awaiting)
    (h15 : s.answers = t.answers) (h16 : s.outStream = t.outStream) (h17 : s.adapter = t.adapter)
    (h18 : s.history = t.history) (h19 : s.delivered = t.delivered) (h20 : s.refused = t.refused)
    (h21 : s.serial = t.serial) (h22 : s.draws = t.draws)
    (h23 : s.ident = t.ident) : s = t := by
  cases s; cases t; simp_all

end Sys2Proof.Machine
end

