-- ==== Sys2Proof/Laws/Ops.lean ====
section
/-! SUPPORT. What the shared operations can do, said once: the adapter-port interaction, the meanings of the commands,
and the step. Later proofs cite these instead of unfolding the operations. -/

namespace Sys2Proof.Machine

/-! ## The adapter-port interaction -/

/-- With no answer the phase holds: only the interaction has been issued (R351). -/
theorem interact_hold {i : Instr} {ix : Interaction} {onOk : List Byte → State → State}
    {onErr : State → State} {s : State}
    (h : s.answers = []) : interact i ix onOk onErr s = .next (s.issued ix) := by
  simp [interact, h]

/-- A successful answer. -/
theorem interact_ok {i : Instr} {ix : Interaction} {onOk : List Byte → State → State}
    {onErr : State → State} {s : State}
    {a : Answer} {later : List Answer} {bs : List Byte} (h : s.answers = a :: later) (hr : a.reply ix = some bs) :
    interact i ix onOk onErr s = .next (onOk bs ({ s.issued ix with answers := later }.succeeded ix)) := by
  simp [interact, h, hr]

/-- A failing answer. -/
theorem interact_err {i : Instr} {ix : Interaction} {onOk : List Byte → State → State}
    {onErr : State → State} {s : State}
    {a : Answer} {later : List Answer} (h : s.answers = a :: later) (hr : a.reply ix = none) :
    interact i ix onOk onErr s = .next (onErr ({ s.issued ix with answers := later }.failed i ix)) := by
  simp [interact, h, hr]

/-- The failure continuation is the error entry (R304, R309). -/
@[simp] theorem State.transportError_eq (i : Instr) (s : State) :
    State.transportError i s = s.raise i .transportError := rfl

/-- Everything an interaction can answer: a hold, a success or a failure; never a stop. -/
theorem interact_cases (i : Instr) (ix : Interaction) (onOk : List Byte → State → State) (onErr : State → State)
    (s : State) :
    (s.answers = [] ∧ interact i ix onOk onErr s = .next (s.issued ix)) ∨
    (∃ a later bs, s.answers = a :: later ∧ a.reply ix = some bs ∧
      interact i ix onOk onErr s = .next (onOk bs ({ s.issued ix with answers := later }.succeeded ix))) ∨
    (∃ a later, s.answers = a :: later ∧ a.reply ix = none ∧
      interact i ix onOk onErr s = .next (onErr ({ s.issued ix with answers := later }.failed i ix))) := by
  cases h : s.answers with
  | nil => exact .inl ⟨rfl, interact_hold h⟩
  | cons a later =>
    cases hr : a.reply ix with
    | some bs => exact .inr (.inl ⟨a, later, bs, rfl, hr, interact_ok h hr⟩)
    | none => exact .inr (.inr ⟨a, later, rfl, hr, interact_err h hr⟩)

/-! ## What a failure leaves of the adapter -/

/-- Traffic that has taken place stays, whatever fails (R80). -/
theorem Adapter.afterFailure_trace (a found : Adapter) (i : Instr) (ix : Interaction) :
    a.trace <+: (a.afterFailure found i ix).trace := by
  unfold Adapter.afterFailure
  cases losesConfiguration i <;> cases ix <;>
    first | exact List.prefix_append _ _ | exact List.prefix_rfl

/-- A failed clock-set may change the clock, and nothing else (R164). -/
@[simp] theorem Adapter.afterFailure_setSpeed (a found : Adapter) (freq v : Int) :
    a.afterFailure found (.setSpeed freq) (.adpClockSet v) = { a with clock := found.clock } := rfl

/-- A failed TRANSACT leaves the clock alone (R164, R255). -/
@[simp] theorem Adapter.afterFailure_transact_clock (a found : Adapter) (addr : U16) (w : List Byte) (rlen : Nat)
    {ix : Interaction} (h : ∀ v, ix ≠ .adpClockSet v) :
    (a.afterFailure found (.transact addr w rlen) ix).clock = a.clock := by
  cases ix <;> first | rfl | exact absurd rfl (h _)

/-- A failed TRANSACT leaves the adapter in its mode. -/
@[simp] theorem Adapter.afterFailure_transact_mode (a found : Adapter) (addr : U16) (w : List Byte) (rlen : Nat)
    (ix : Interaction) : (a.afterFailure found (.transact addr w rlen) ix).i2cMode = a.i2cMode := by
  cases ix <;> rfl

/-! ## Which answers succeed -/

/-- A failure answer fails every interaction. -/
@[simp] theorem Answer.reply_err (ix : Interaction) : Answer.err.reply ix = none := rfl

/-- A success of anything but a read is a success whatever bytes come with it. -/
theorem Answer.reply_ok {ix : Interaction} (bs : List Byte) (h : ∀ n, ix ≠ .txRead n) :
    (Answer.ok bs).reply ix = some bs := by
  cases ix <;> first | rfl | exact absurd rfl (h _)

/-- A read succeeds exactly when it delivers the number of bytes asked for. -/
theorem Answer.reply_read {a : Answer} {n : Nat} {bs : List Byte} :
    a.reply (.txRead n) = some bs ↔ a = .ok bs ∧ bs.length = n := by
  cases a with
  | err => simp [Answer.reply]
  | ok cs =>
    simp only [Answer.reply]
    constructor
    · intro h
      by_cases hl : cs.length = n
      · rw [if_pos hl] at h; cases h; exact ⟨rfl, hl⟩
      · rw [if_neg hl] at h; cases h
    · rintro ⟨h, hl⟩
      cases h
      rw [if_pos hl]

/-- Which answers fail an interaction: an error, and a read that delivers another number of bytes (D21). -/
theorem Answer.reply_none {a : Answer} {ix : Interaction} :
    a.reply ix = none ↔ a.fails ix := by
  unfold Answer.fails
  cases a with
  | err => simp [Answer.reply]
  | ok cs => cases ix <;> simp [Answer.reply]

/-! ## The commands -/

/-- A command answers a next state that differs in the adapter, and in the count of free values, alone. -/
theorem exec_command {c : Instr} (h : c.isCommand = true) (s : State) :
    ∃ a d, exec c s = .next { s with adapter := a, draws := d } := by
  cases c <;> simp [Instr.isCommand, Instr.isRequest] at h
  case setPins value dir => exact ⟨_, _, rfl⟩
  case shiftOut n data => exact ⟨_, _, rfl⟩
  case shiftIn n => exact ⟨_, _, rfl⟩
  case setDivisor div => exact ⟨_, _, rfl⟩

/-- Shifting out keeps everything of the adapter but the output levels and the trace. -/
theorem foldl_clockOut (bits : List Bool) (a : Adapter) :
    ∃ p, bits.foldl Adapter.clockOut a =
      { a with pinOut := p, trace := a.trace ++ bits.map PinEvent.clockOut } := by
  induction bits generalizing a with
  | nil => exact ⟨a.pinOut, by simp⟩
  | cons b bits ih =>
    obtain ⟨p, hp⟩ := ih (a.clockOut b)
    exact ⟨p, by rw [List.foldl_cons, hp]; simp [Adapter.clockOut]⟩

/-- Shifting in keeps everything of the adapter but the output levels and the trace. -/
theorem foldl_clockIn (bits : List Bool) (a : Adapter) :
    ∃ p, bits.foldl Adapter.clockIn a =
      { a with pinOut := p, trace := a.trace ++ bits.map PinEvent.clockIn } := by
  induction bits generalizing a with
  | nil => exact ⟨a.pinOut, by simp⟩
  | cons b bits ih =>
    obtain ⟨p, hp⟩ := ih (a.clockIn b)
    exact ⟨p, by rw [List.foldl_cons, hp]; simp [Adapter.clockIn]⟩

/-! ## The step -/

/-- The block waits: nothing to serve, or `LOCK` not free. -/
def State.waits (s : State) : Prop :=
  s.outStream = [] ∧ s.phase = .ready ∧ (s.lock = .free → s.waitq[s.pick]? = none)

/-- Everything a step that answers a next state can be: an adapter command, a wait, a waiting frame that holds no
request, a waiting request, or a phase of the request in service. -/
theorem step_cases {s t : State} (h : step s = .next t) :
    (∃ c rest, commandAt s.outStream = some (c, rest) ∧ exec c { s with outStream := rest } = .next t) ∨
    (s.waits ∧ t = s) ∨
    (∃ w, s.outStream = [] ∧ s.phase = .ready ∧ s.lock = .free ∧ s.waitq[s.pick]? = some w ∧
      requestOf w.frame = none ∧ t = (s.present s.pick w.requester).refuse) ∨
    (∃ w i, s.outStream = [] ∧ s.phase = .ready ∧ s.lock = .free ∧ s.waitq[s.pick]? = some w ∧
      requestOf w.frame = some i ∧ exec i (s.present s.pick w.requester) = .next t) ∨
    (∃ i, s.outStream = [] ∧ s.phase ≠ .ready ∧ s.req = some i ∧ exec i s = .next t) := by
  unfold step at h
  split at h
  case h_1 b bs hout =>
    unfold adapterStep at h
    split at h
    case h_1 c rest hc => exact .inl ⟨c, rest, hc, h⟩
    case h_2 => cases h
  case h_2 hout =>
    unfold blockStep at h
    by_cases hp : s.phase = .ready
    · rw [if_pos hp] at h
      by_cases hl : s.lock = .free
      · rw [if_pos hl] at h
        unfold serve at h
        split at h
        case h_1 hw =>
          cases h
          exact .inr (.inl ⟨⟨hout, hp, fun _ => hw⟩, rfl⟩)
        case h_2 w hw =>
          split at h
          case h_1 i hi => exact .inr (.inr (.inr (.inl ⟨w, i, hout, hp, hl, hw, hi, h⟩)))
          case h_2 hi =>
            cases h
            exact .inr (.inr (.inl ⟨w, hout, hp, hl, hw, hi, rfl⟩))
      · rw [if_neg hl] at h
        cases h
        exact .inr (.inl ⟨⟨hout, hp, fun hf => absurd hf hl⟩, rfl⟩)
    · rw [if_neg hp] at h
      split at h
      case h_1 i hi => exact .inr (.inr (.inr (.inr ⟨i, hout, hp, hi, h⟩)))
      case h_2 => cases h

end Sys2Proof.Machine
end

