-- ==== Sys2Proof/Laws/Checks.lean ====
section
/-! SUPPORT. The checks of Flags.lean and Clock.lean as the spec's plain conditions. -/

namespace Sys2Proof.Machine

/-- The range check is `100 ≤ freq ≤ 10_000_000` (R161). -/
theorem inRange_iff {freq : Int} : inRange freq = true ↔ 100 ≤ freq ∧ freq ≤ 10000000 := by
  unfold inRange
  rw [Bool.and_eq_true, decide_eq_true_iff, decide_eq_true_iff]
  exact Iff.rfl

/-- A TRANSACT is admitted while configured, with a 7-bit address (R306, R105). -/
theorem admits_transact {cfg : Bool} {addr : U16} {w : List Byte} {rlen : Nat} :
    admits cfg (.transact addr w rlen) = true ↔ cfg = true ∧ addr.toNat ≤ 0x7F := by
  unfold admits
  rw [Bool.and_eq_true, decide_eq_true_iff]
  exact and_congr_right fun _ => Nat.lt_succ_iff

/-- OPEN is admitted while not configured (R253, R306). -/
@[simp] theorem admits_openBus (cfg : Bool) (channel : Nat) (pullUp : Bool) :
    admits cfg (.openBus channel pullUp) = !cfg := rfl

/-- SET_SPEED is admitted while configured (R259, R306). -/
@[simp] theorem admits_setSpeed (cfg : Bool) (freq : Int) : admits cfg (.setSpeed freq) = cfg := rfl

/-- An admitted instruction is a request. -/
theorem isRequest_of_admits {cfg : Bool} {i : Instr} (h : admits cfg i = true) : i.isRequest = true := by
  cases i <;> simp [admits, Instr.isRequest] at *

/-- Some acknowledgment byte is a NAK exactly when some byte of the region has bit 0 set (R234). -/
theorem any_nak_iff {n rlen : Nat} {resp : List Byte} :
    (ackRegion n rlen resp).any nak = true ↔
      ∃ k b, k < n - rlen ∧ resp[k]? = some b ∧ b.getLsbD 0 = true := by
  simp only [ackRegion, List.any_eq_true, nak]
  constructor
  · rintro ⟨b, hb, hn⟩
    obtain ⟨k, hk⟩ := List.mem_iff_getElem?.mp hb
    rw [List.getElem?_take] at hk
    split at hk
    · exact ⟨k, b, by assumption, hk, hn⟩
    · cases hk
  · rintro ⟨k, b, hk, hb, hn⟩
    refine ⟨b, List.mem_iff_getElem?.mpr ⟨k, ?_⟩, hn⟩
    rw [List.getElem?_take, if_pos hk, hb]

/-- The history an issued interaction leaves. -/
@[simp] theorem State.issued_history_with (s : State) (ix : Interaction) :
    (s.issued ix).history = s.historyWith ix := State.issued_history s ix

end Sys2Proof.Machine
end

