-- ==== Sys2Proof/Laws/Decode.lean ====
section
/-! SUPPORT. The byte-order helpers of the decoder and encoder, and what the two head functions accept. -/

namespace Sys2Proof

@[simp] theorem leBytes_length (k v : Nat) : (leBytes k v).length = k := by
  induction k generalizing v with
  | zero => rfl
  | succ k ih => simp [leBytes, ih]

/-- Reading back a number that fits the field. -/
theorem leNat_leBytes {k v : Nat} (h : v < 256 ^ k) : leNat (leBytes k v) = v := by
  induction k generalizing v with
  | zero => simp at h; simp [leBytes, leNat, h]
  | succ k ih =>
    have hq : v / 256 < 256 ^ k := by
      rw [Nat.div_lt_iff_lt_mul (by norm_num)]
      rw [pow_succ] at h
      exact h
    simp only [leBytes, leNat, ih hq, BitVec.toNat_ofNat]
    omega

/-- A field of `k` bytes holds a number below `256 ^ k`. -/
theorem leNat_lt (bs : List Byte) : leNat bs < 256 ^ bs.length := by
  induction bs with
  | nil => simp [leNat]
  | cons b bs ih =>
    have hb : b.toNat < 256 := b.isLt
    simp only [leNat, List.length_cons, pow_succ]
    omega

/-- Writing back a number read. -/
theorem leBytes_leNat (bs : List Byte) : leBytes bs.length (leNat bs) = bs := by
  induction bs with
  | nil => rfl
  | cons b bs ih =>
    have hb : b.toNat < 256 := b.isLt
    have hm : (b.toNat + 256 * leNat bs) / 256 = leNat bs := by omega
    have hl : BitVec.ofNat 8 (b.toNat + 256 * leNat bs) = b := by
      apply BitVec.eq_of_toNat_eq
      simp only [BitVec.toNat_ofNat]
      omega
    simp only [List.length_cons, leBytes, leNat, hm, hl, ih]

/-- The frequency field read back. -/
theorem signed64_field64 {f : Int} (h1 : -2 ^ 63 ≤ f) (h2 : f < 2 ^ 63) : signed64 (field64 f) = f := by
  unfold signed64 field64
  split <;> omega

/-- The frequency field written back. -/
theorem field64_signed64 {v : Nat} (h : v < 2 ^ 64) : field64 (signed64 v) = v := by
  unfold signed64 field64
  split <;> omega

theorem field64_lt (f : Int) : field64 f < 256 ^ 8 := by
  unfold field64
  have : (256 : Nat) ^ 8 = 2 ^ 64 := by norm_num
  omega

/-- Splitting off a prefix of known length. -/
theorem splitBytes_append {n : Nat} {xs ys : List Byte} (h : xs.length = n) :
    splitBytes n (xs ++ ys) = some (xs, ys) := by
  subst h
  simp [splitBytes]

/-- What a split gives back. -/
theorem splitBytes_some {n : Nat} {bs xs ys : List Byte} (h : splitBytes n bs = some (xs, ys)) :
    bs = xs ++ ys ∧ xs.length = n := by
  unfold splitBytes at h
  split at h
  · cases h
    refine ⟨(List.take_append_drop n bs).symm, ?_⟩
    rw [List.length_take]
    omega
  · cases h

/-- A count byte read back. -/
theorem decodeCount_countByte {n : Nat} (h1 : 1 ≤ n) (h2 : n ≤ 8) : decodeCount (countByte n) = some n := by
  obtain h | h | h | h | h | h | h | h :
    n = 1 ∨ n = 2 ∨ n = 3 ∨ n = 4 ∨ n = 5 ∨ n = 6 ∨ n = 7 ∨ n = 8 := by omega
  all_goals subst h; decide

/-- A count byte written back. -/
theorem decodeCount_some {b : Byte} {n : Nat} (h : decodeCount b = some n) :
    b = countByte n ∧ 1 ≤ n ∧ n ≤ 8 := by
  revert h
  unfold decodeCount
  split
  case isTrue hb =>
    intro h
    cases h
    have hlt : b.toNat < 8 := by
      by_contra hge
      have : ∀ x : Byte, x &&& 0xF8#8 = 0#8 → x.toNat < 8 := by decide
      exact hge (this b hb)
    refine ⟨?_, by omega, by omega⟩
    simp [countByte]
  case isFalse => intro h; cases h

/-- What the request port reads is a request. -/
theorem requestOf_isRequest {frame : List Byte} {i : Instr} (h : requestOf frame = some i) :
    i.isRequest = true ∧ decode frame = .instr i [] := by
  unfold requestOf at h
  split at h
  · rename_i j hj
    by_cases hr : j.isRequest
    · simp [hr] at h
      subst h
      exact ⟨hr, hj⟩
    · simp [hr] at h
  · cases h

/-- What the adapter reads is a command. -/
theorem commandAt_isCommand {bs rest : List Byte} {c : Instr} (h : commandAt bs = some (c, rest)) :
    c.isCommand = true ∧ decode bs = .instr c rest := by
  unfold commandAt at h
  split at h
  · rename_i j r hj
    by_cases hr : j.isCommand
    · simp [hr] at h
      obtain ⟨rfl, rfl⟩ := h
      exact ⟨hr, hj⟩
    · simp [hr] at h
  · cases h

/-- No encoding is empty. -/
theorem encode_ne_nil (i : Instr) : encode i ≠ [] := by
  cases i <;> simp [encode]

@[simp] theorem ser_nil : ser [] = [] := rfl

@[simp] theorem ser_cons (c : Instr) (cs : List Instr) : ser (c :: cs) = encode c ++ ser cs := by
  simp [ser]

@[simp] theorem ser_append (cs ds : List Instr) : ser (cs ++ ds) = ser cs ++ ser ds := by
  simp [ser]

end Sys2Proof
end

