-- ==== Sys2Proof/Laws/Meanings.lean ====
section
/-! SUPPORT. The meaning of each request, one equation for each phase of its path, so that later proofs never unfold
it. -/

namespace Sys2Proof.Machine

variable {s : State}

/-! ## OPEN -/

theorem exec_openBus_ready {channel : Nat} {pullUp : Bool} (h : s.phase = .ready) :
    exec (.openBus channel pullUp) s =
      if s.cfg then .next s.refuse
      else if pullUp then .next ((s.take (.openBus channel pullUp)).raise (.openBus channel pullUp) .unsupported)
      else .next { s.take (.openBus channel pullUp) with phase := .enter } := by
  cases hc : s.cfg <;> cases pullUp <;> simp [exec, execOpen, h, hc, Config.pullUpSupported]

theorem exec_openBus_enter {channel : Nat} {pullUp : Bool} (h : s.phase = .enter) :
    exec (.openBus channel pullUp) s =
      interact (.openBus channel pullUp) .adpEnterI2C (fun _ t => { t with phase := .build })
        (State.transportError (.openBus channel pullUp)) s := by
  simp [exec, execOpen, h]

theorem exec_openBus_build {channel : Nat} {pullUp : Bool} (h : s.phase = .build) :
    exec (.openBus channel pullUp) s = .next { s with phase := .write, batch := openBatch openDir } := by
  simp [exec, execOpen, h, State.emitAll]

theorem exec_openBus_write {channel : Nat} {pullUp : Bool} (h : s.phase = .write) :
    exec (.openBus channel pullUp) s =
      interact (.openBus channel pullUp) (.txWrite (ser s.batch)) (fun _ t => { t with phase := .flush1 })
        (State.transportError (.openBus channel pullUp)) s := by
  simp [exec, execOpen, h]

theorem exec_openBus_flush1 {channel : Nat} {pullUp : Bool} (h : s.phase = .flush1) :
    exec (.openBus channel pullUp) s =
      interact (.openBus channel pullUp) .txFlush (fun _ t => t.configured.complete .nothing)
        (State.transportError (.openBus channel pullUp)) s := by
  simp [exec, execOpen, h]

/-! ## SET_SPEED -/

theorem exec_setSpeed_ready {freq : Int} (h : s.phase = .ready) :
    exec (.setSpeed freq) s =
      if s.cfg then
        if 100 ≤ freq ∧ freq ≤ 10000000 then .next { s.take (.setSpeed freq) with phase := .clockset }
        else .next ((s.take (.setSpeed freq)).raise (.setSpeed freq) .outOfRange)
      else .next s.refuse := by
  cases hc : s.cfg <;> simp [exec, execSetSpeed, h, hc, inRange_iff]

theorem exec_setSpeed_clockset {freq : Int} (h : s.phase = .clockset) :
    exec (.setSpeed freq) s =
      interact (.setSpeed freq) (.adpClockSet (scaledFreq freq)) (fun _ t => t.complete .nothing)
        (State.transportError (.setSpeed freq)) s := by
  simp [exec, execSetSpeed, h]

/-! ## TRANSACT -/

theorem exec_transact_ready {addr : U16} {w : List Byte} {rlen : Nat} (h : s.phase = .ready) :
    exec (.transact addr w rlen) s =
      if s.cfg = true ∧ addr.toNat ≤ 0x7F then .next { s.take (.transact addr w rlen) with phase := .build }
      else .next s.refuse := by
  simp only [exec, execTransact, h, admits_transact]

theorem exec_transact_build {addr : U16} {w : List Byte} {rlen : Nat} (h : s.phase = .build) :
    exec (.transact addr w rlen) s = .next { build addr w rlen s.dir s with phase := .flush0 } := by
  simp [exec, execTransact, h]

theorem exec_transact_flush0 {addr : U16} {w : List Byte} {rlen : Nat} (h : s.phase = .flush0) :
    exec (.transact addr w rlen) s =
      interact (.transact addr w rlen) .txFlush (fun _ t => { t with phase := .write })
        (State.transportError (.transact addr w rlen)) s := by
  simp [exec, execTransact, h]

theorem exec_transact_write {addr : U16} {w : List Byte} {rlen : Nat} (h : s.phase = .write) :
    exec (.transact addr w rlen) s =
      interact (.transact addr w rlen) (.txWrite (ser s.batch)) (fun _ t => { t with phase := .flush1 })
        (State.transportError (.transact addr w rlen)) s := by
  simp [exec, execTransact, h]

theorem exec_transact_flush1 {addr : U16} {w : List Byte} {rlen : Nat} (h : s.phase = .flush1) :
    exec (.transact addr w rlen) s =
      interact (.transact addr w rlen) .txFlush (fun _ t => { t with phase := .read })
        (State.transportError (.transact addr w rlen)) s := by
  simp [exec, execTransact, h]

theorem exec_transact_read {addr : U16} {w : List Byte} {rlen : Nat} (h : s.phase = .read) :
    exec (.transact addr w rlen) s =
      interact (.transact addr w rlen) (.txRead s.rcount) (fun bs t => { t with resp := bs, phase := .validate })
        (State.transportError (.transact addr w rlen)) s := by
  simp [exec, execTransact, h]

theorem exec_transact_validate {addr : U16} {w : List Byte} {rlen : Nat} (h : s.phase = .validate) :
    exec (.transact addr w rlen) s =
      if (ackRegion s.rcount rlen s.resp).any nak then .next (s.raise (.transact addr w rlen) .nakReceived)
      else .next { s with phase := .copy } := by
  simp only [exec, execTransact, h]

theorem exec_transact_copy {addr : U16} {w : List Byte} {rlen : Nat} (h : s.phase = .copy) :
    exec (.transact addr w rlen) s = .next (s.complete (.rdata (readData s.rcount s.rdlen s.resp))) := by
  simp [exec, execTransact, h]

/-! ## CLOSE and the pin introspections -/

theorem exec_closeBus_ready (h : s.phase = .ready) :
    exec .closeBus s = .next { s.take .closeBus with phase := .reset } := by
  simp [exec, execClose, h]

theorem exec_closeBus_reset (h : s.phase = .reset) :
    exec .closeBus s =
      interact .closeBus .adpResetDefault (fun _ t => t.deconfigured.complete .nothing)
        (fun t => t.deconfigured.transportError .closeBus) s := by
  simp [exec, execClose, h]

theorem exec_clockPin_ready (h : s.phase = .ready) :
    exec .clockPin s = .next ((s.take .clockPin).complete (.pin Config.sclBit)) := by
  simp [exec, execClockPin, introspect, h]

theorem exec_dataPin_ready (h : s.phase = .ready) :
    exec .dataPin s = .next ((s.take .dataPin).complete (.pin Config.sdaOutBit)) := by
  simp [exec, execDataPin, introspect, h]

/-! ## Every request -/

/-- At `DONE` every request is released. -/
theorem exec_done {i : Instr} (hi : i.isRequest = true) (h : s.phase = .done) : exec i s = .next s.release := by
  cases i <;> simp [Instr.isRequest] at hi <;>
    simp [exec, execOpen, execSetSpeed, execTransact, execClose, execClockPin, execDataPin, introspect, h]

/-- A request that answers a next state is at `READY` or on its path (R39). -/
theorem exec_onPath {i : Instr} {t : State} (hi : i.isRequest = true) (h : exec i s = .next t) :
    s.phase = .ready ∨ s.phase ∈ pathOf i := by
  cases i <;> simp [Instr.isRequest] at hi <;> cases hp : s.phase <;>
    simp [exec, execOpen, execSetSpeed, execTransact, execClose, execClockPin, execDataPin, introspect, hp,
      pathOf] at h ⊢

/-- In a phase of its path that makes an interaction, a request is that one interaction: what its success does, and that
its failure ends the request (R304, R309), CLOSE with its registers cleared (R256). -/
theorem exec_interacts {i : Instr} (hp : s.phase ∈ pathOf i) (hx : s.phase.interacts = true) :
    ∃ ix onOk, s.interaction i = some ix ∧ exec i s = interact i ix onOk
      (fun t => if i = .closeBus then t.deconfigured.transportError i else t.transportError i) s := by
  cases i <;> simp only [pathOf, List.mem_cons, List.not_mem_nil, or_false] at hp
  case openBus channel pullUp =>
    obtain h | h | h | h | h := hp <;> rw [h] at hx <;> simp [Phase.interacts] at hx
    · exact ⟨_, _, by simp [State.interaction, h], exec_openBus_enter h⟩
    · exact ⟨_, _, by simp [State.interaction, h], exec_openBus_write h⟩
    · exact ⟨_, _, by simp [State.interaction, h], exec_openBus_flush1 h⟩
  case setSpeed freq =>
    obtain h | h := hp <;> rw [h] at hx <;> simp [Phase.interacts] at hx
    exact ⟨_, _, by simp [State.interaction, h], exec_setSpeed_clockset h⟩
  case transact addr w rlen =>
    obtain h | h | h | h | h | h | h | h := hp <;> rw [h] at hx <;> simp [Phase.interacts] at hx
    · exact ⟨_, _, by simp [State.interaction, h], exec_transact_flush0 h⟩
    · exact ⟨_, _, by simp [State.interaction, h], exec_transact_write h⟩
    · exact ⟨_, _, by simp [State.interaction, h], exec_transact_flush1 h⟩
    · exact ⟨_, _, by simp [State.interaction, h], exec_transact_read h⟩
  case closeBus =>
    obtain h | h := hp <;> rw [h] at hx <;> simp [Phase.interacts] at hx
    exact ⟨_, _, by simp [State.interaction, h], exec_closeBus_reset h⟩
  case clockPin => rw [hp] at hx; simp [Phase.interacts] at hx
  case dataPin => rw [hp] at hx; simp [Phase.interacts] at hx

/-- The shape of `build` (R210): it writes the batch and the counters, and nothing else. -/
theorem build_eq (addr : U16) (w : List Byte) (rlen : Nat) (d : Byte) (s : State) :
    build addr w rlen d s = { s with
      batch := (build addr w rlen d s).batch, rcount := (build addr w rlen d s).rcount
      rdlen := (build addr w rlen d s).rdlen } := by
  simp only [build, buildStart, buildWrite, buildRead, State.emitAll]
  split <;> rfl

/-- `build` keeps the identity. -/
@[simp] theorem build_ident (addr : U16) (w : List Byte) (rlen : Nat) (d : Byte) (s : State) :
    (build addr w rlen d s).ident = s.ident := by rw [build_eq]

/-- What `build` makes depends on its operands alone (R194, R210). -/
theorem build_batch (addr : U16) (w : List Byte) (rlen : Nat) (d : Byte) (s t : State) :
    (build addr w rlen d s).batch = (build addr w rlen d t).batch ∧
      (build addr w rlen d s).rcount = (build addr w rlen d t).rcount ∧
      (build addr w rlen d s).rdlen = (build addr w rlen d t).rdlen := by
  simp only [build, buildStart, buildWrite, buildRead, State.emitAll]
  split <;> simp

/-- The counters when step 3 is not taken (R212, R213). -/
theorem build_short_counters {addr : U16} {w : List Byte} {rlen : Nat} {d : Byte} {s : State}
    (h : w = [] ∨ rlen = 0) :
    (build addr w rlen d s).rcount = 1 + w.length ∧ (build addr w rlen d s).rdlen = 0 := by
  have hn : ¬(w.length ≠ 0 ∧ rlen ≠ 0) := fun ⟨hw, hr⟩ =>
    h.elim (fun hh => hw (List.length_eq_zero_iff.mpr hh)) hr
  simp only [build, if_neg hn, buildWrite, buildStart, State.emitAll_rcount, State.emitAll_rdlen, Nat.zero_add,
    and_self]

/-- The counters of a combined transaction (R213). -/
theorem build_combined_counters {addr : U16} {w : List Byte} {rlen : Nat} {d : Byte} {s : State}
    (hw : w ≠ []) (hr : rlen ≠ 0) :
    (build addr w rlen d s).rcount = 1 + w.length + 1 + rlen ∧ (build addr w rlen d s).rdlen = rlen := by
  have hp : w.length ≠ 0 ∧ rlen ≠ 0 := ⟨fun hh => hw (List.length_eq_zero_iff.mp hh), hr⟩
  simp only [build, if_pos hp, buildWrite, buildStart, buildRead, State.emitAll_rcount, State.emitAll_rdlen,
    Nat.zero_add, and_self]

/-! ## The identity of an instance -/

/-- An interaction whose continuations keep the identity keeps it. -/
theorem interact_ident {i : Instr} {ix : Interaction} {onOk : List Byte → State → State} {onErr : State → State}
    {t : State} (h : interact i ix onOk onErr s = .next t) (hf : ∀ bs u, (onOk bs u).ident = u.ident)
    (hg : ∀ u, (onErr u).ident = u.ident) : t.ident = s.ident := by
  obtain ⟨-, hh⟩ | ⟨_, _, _, -, -, hh⟩ | ⟨_, _, -, -, hh⟩ := interact_cases i ix onOk onErr s <;>
    cases hh.symm.trans h <;> simp [hf, hg]

/-- No meaning writes the identity (R252). -/
theorem exec_ident {i : Instr} {t : State} (h : exec i s = .next t) : t.ident = s.ident := by
  by_cases hi : i.isRequest = true
  swap
  · obtain ⟨a, d, he⟩ := exec_command (c := i) (by simp [Instr.isCommand, hi]) s
    cases he.symm.trans h; rfl
  cases i <;> simp [Instr.isRequest] at hi <;> cases hp : s.phase <;>
    simp only [exec, execOpen, execSetSpeed, execTransact, execClose, execClockPin, execDataPin, introspect, hp] at h
  all_goals first
    | exact interact_ident h (by simp) (by simp)
    | (repeat' split at h) <;> cases h <;> first | rfl | simp [build_ident]

/-- No step writes the identity. -/
theorem step_ident {t : State} (h : step s = .next t) : t.ident = s.ident := by
  obtain ⟨c, rest, -, he⟩ | ⟨-, rfl⟩ | ⟨w, -, -, -, -, -, rfl⟩ | ⟨w, i, -, -, -, -, -, he⟩ | ⟨i, -, -, -, he⟩ :=
    step_cases h
  · have := exec_ident he; exact this
  · rfl
  · rfl
  · have := exec_ident he; exact this
  · exact exec_ident he

end Sys2Proof.Machine
end

