-- ==== Sys2Proof/Laws/PerInstr.lean ====
section
/-! SUPPORT. Statements made per instruction, one lemma for each constructor of `Instr`. -/

namespace Sys2Proof.Laws.EncodeHead

/-- The first byte of the byte form is the code of the instruction's row of the opcode table (R107). -/
def Statement (i : Instr) : Prop :=
  (encode i).head? = some (match i with
    | .openBus _ _ => 0x01#8
    | .setSpeed _ => 0x02#8
    | .transact _ _ _ => 0x03#8
    | .closeBus => 0x04#8
    | .clockPin => 0x05#8
    | .dataPin => 0x06#8
    | .setPins _ _ => 0x80#8
    | .shiftOut _ _ => 0x13#8
    | .shiftIn _ => 0x22#8
    | .setDivisor _ => 0x86#8)

theorem openBus (channel : Nat) (pullUp : Bool) : Statement (.openBus channel pullUp) := rfl
theorem setSpeed (freq : Int) : Statement (.setSpeed freq) := rfl
theorem transact (addr : U16) (w : List Byte) (rlen : Nat) : Statement (.transact addr w rlen) := rfl
theorem closeBus : Statement .closeBus := rfl
theorem clockPin : Statement .clockPin := rfl
theorem dataPin : Statement .dataPin := rfl
theorem setPins (value dir : Byte) : Statement (.setPins value dir) := rfl
theorem shiftOut (n : Nat) (data : Byte) : Statement (.shiftOut n data) := rfl
theorem shiftIn (n : Nat) : Statement (.shiftIn n) := rfl
theorem setDivisor (div : U16) : Statement (.setDivisor div) := rfl

end Sys2Proof.Laws.EncodeHead
end

