-- ==== Sys2Proof/Laws/Pins.lean ====
section
/-! SUPPORT. One pin of a mask, the levels the shifts leave, and the bits of a response byte. -/

namespace Sys2Proof.Machine

theorem pinMask_bit {p : Nat} (hp : p < 8) (q : Nat) : (pinMask p).getLsbD q = decide (q = p) := by
  by_cases hq : q < 8
  · have h : ∀ p q : Fin 8, (pinMask p.val).getLsbD q.val = decide (q.val = p.val) := by decide
    exact h ⟨p, hp⟩ ⟨q, hq⟩
  · rw [BitVec.getLsbD_of_ge _ _ (by omega)]
    exact (decide_eq_false (by omega)).symm

/-- Setting one pin sets that pin and keeps the others. -/
theorem setPin_bit (b : Byte) {p : Nat} (hp : p < 8) (q : Nat) (v : Bool) :
    (setPin b p v).getLsbD q = if q = p then v else b.getLsbD q := by
  unfold setPin
  cases v <;>
    simp only [Bool.false_eq_true, if_true, if_false, BitVec.getLsbD_or, BitVec.getLsbD_and, BitVec.getLsbD_not,
      pinMask_bit hp] <;>
    by_cases hqp : q = p
  · simp [hqp]
  · by_cases hq : q < 8
    · simp [hqp, hq]
    · simp [hqp, BitVec.getLsbD_of_ge b q (by omega)]
  · simp [hqp]
  · simp [hqp]

/-- Shifting in keeps every level but that of the clock pin. -/
theorem clockIn_levels (bits : List Bool) (a : Adapter) {p : Nat} (hp : 1 ≤ p) :
    (bits.foldl Adapter.clockIn a).pinOut.getLsbD p = a.pinOut.getLsbD p := by
  induction bits generalizing a with
  | nil => rfl
  | cons b bits ih =>
    rw [List.foldl_cons, ih, Adapter.clockIn, setPin_bit _ (by decide), if_neg]
    show p ≠ 0
    omega

/-- Shifting out keeps every level but those of the clock and data output pins. -/
theorem clockOut_levels (bits : List Bool) (a : Adapter) {p : Nat} (hp : 2 ≤ p) :
    (bits.foldl Adapter.clockOut a).pinOut.getLsbD p = a.pinOut.getLsbD p := by
  induction bits generalizing a with
  | nil => rfl
  | cons b bits ih =>
    have h0 : p ≠ Config.sclBit := by show p ≠ 0; omega
    have h1 : p ≠ Config.sdaOutBit := by show p ≠ 1; omega
    rw [List.foldl_cons, ih, Adapter.clockOut, setPin_bit _ (by decide), if_neg h0, setPin_bit _ (by decide),
      if_neg h1]

/-- Shifting out leaves the data output pin at the last bit. -/
theorem clockOut_last (bits : List Bool) (a : Adapter) {b : Bool} (h : bits.getLast? = some b) :
    (bits.foldl Adapter.clockOut a).pinOut.getLsbD Config.sdaOutBit = b := by
  obtain ⟨init, rfl⟩ := List.getLast?_eq_some_iff.mp h
  rw [List.foldl_append]
  show (Adapter.clockOut _ b).pinOut.getLsbD _ = b
  rw [Adapter.clockOut, setPin_bit _ (by decide), if_neg (by decide), setPin_bit _ (by decide), if_pos rfl]

/-- The later bits of a response do not touch the earlier ones. -/
theorem responseFold_keeps {m : Nat} (hm : m ≤ 8) (bits : List Bool) (off : Nat) (r : Byte) (q : Nat)
    (hl : off + bits.length = m) (hq : m ≤ off + q) :
    ((bits.zipIdx off).foldl (fun r p => setPin r (m - 1 - p.2) p.1) r).getLsbD q = r.getLsbD q := by
  induction bits generalizing off r with
  | nil => rfl
  | cons b bits ih =>
    rw [List.length_cons] at hl
    rw [List.zipIdx_cons, List.foldl_cons, ih _ _ (by omega) (by omega),
      setPin_bit _ (by show m - 1 - off < 8; omega), if_neg (by show q ≠ m - 1 - off; omega)]

/-- Each bit of a response stands in its place. -/
theorem responseFold_bit {m : Nat} (hm : m ≤ 8) (bits : List Bool) (off : Nat) (r : Byte)
    (hl : off + bits.length = m) {k : Nat} {b : Bool} (hk : bits[k]? = some b) :
    ((bits.zipIdx off).foldl (fun r p => setPin r (m - 1 - p.2) p.1) r).getLsbD (m - 1 - (off + k)) = b := by
  induction bits generalizing off r k with
  | nil => cases hk
  | cons x bits ih =>
    rw [List.length_cons] at hl
    rw [List.zipIdx_cons, List.foldl_cons]
    cases k with
    | zero =>
      cases hk
      rw [responseFold_keeps hm _ _ _ _ (by omega) (by omega), setPin_bit _ (by show m - 1 - off < 8; omega)]
      exact if_pos rfl
    | succ k =>
      have := ih (off + 1) (setPin r (m - 1 - off) x) (by omega) hk
      rwa [Nat.add_assoc, Nat.add_comm 1 k] at this

/-- The k-th sampled bit stands in bit `n−1−k` of the response byte (R118). -/
theorem responseByte_bit (fill : Byte) {bits : List Bool} (h : bits.length ≤ 8) {k : Nat} {b : Bool}
    (hk : bits[k]? = some b) : (responseByte fill bits).getLsbD (bits.length - 1 - k) = b := by
  have := responseFold_bit h bits 0 fill (Nat.zero_add _) hk
  rwa [Nat.zero_add] at this

end Sys2Proof.Machine
end

