-- ==== Sys2Proof/Laws/Runs.lean ====
section
/-! SUPPORT. Runs: one step, then the rest; and what a step does when the fetch is known. -/

namespace Sys2Proof.Machine

/-- No step. -/
theorem reaches_zero (s : State) : Reaches s 0 s := rfl

/-- A run of `k + 1` steps is one step and a run of `k`. -/
theorem reaches_succ_iff {s u : State} {k : Nat} :
    Reaches s (k + 1) u ↔ ∃ t, step s = .next t ∧ Reaches t k u := by
  have e : Reaches s (k + 1) u = _ := congrArg (· = Host.Outcome.next u) (Host.Core.run.eq_2 Sys2Proof.core s k)
  refine (Iff.of_eq e).trans ?_
  have hs : Sys2Proof.core.step s = step s := rfl
  rw [hs]
  cases step s with
  | next t => exact ⟨fun h => ⟨t, rfl, h⟩, fun ⟨_, h, hr⟩ => by cases h; exact hr⟩
  | fault f => exact ⟨(fun h => nomatch h), fun ⟨_, h, _⟩ => nomatch h⟩
  | refused r => exact ⟨(fun h => nomatch h), fun ⟨_, h, _⟩ => nomatch h⟩

/-- One more step in front. -/
theorem reaches_succ {s t u : State} {k : Nat} (h : step s = .next t) (hr : Reaches t k u) : Reaches s (k + 1) u :=
  reaches_succ_iff.mpr ⟨t, h, hr⟩

/-- Two runs, one after the other. -/
theorem reaches_trans {s t u : State} {j k : Nat} (h : Reaches s j t) (h' : Reaches t k u) : Reaches s (j + k) u := by
  induction j generalizing s with
  | zero => cases h; rwa [Nat.zero_add]
  | succ j ih =>
    obtain ⟨v, hs, hv⟩ := reaches_succ_iff.mp h
    rw [Nat.succ_add]
    exact reaches_succ hs (ih hv)

/-! ## One step -/

/-- While the outbound stream begins with a command, the adapter executes it. -/
theorem step_command {s : State} {c : Instr} {rest : List Byte} (h : commandAt s.outStream = some (c, rest)) :
    step s = exec c { s with outStream := rest } := by
  unfold step
  split
  case h_1 => simp only [adapterStep, h]
  case h_2 ho => rw [ho] at h; cases h

/-- A waiting request is served: presented to the block and executed, or refused when its frame holds none. -/
theorem step_serve {s : State} {w : Waiting} (ho : s.outStream = []) (hp : s.phase = .ready) (hl : s.lock = .free)
    (hw : s.waitq[s.pick]? = some w) :
    step s = match requestOf w.frame with
      | some i => exec i (s.present s.pick w.requester)
      | none => .next (s.present s.pick w.requester).refuse := by
  unfold step
  rw [ho]
  cases hq : requestOf w.frame <;> simp only [blockStep, hp, hl, if_true, serve, hw, hq]

/-- The request in service makes its next phase. -/
theorem step_service {s : State} {i : Instr} (ho : s.outStream = []) (hp : s.phase ≠ .ready) (hr : s.req = some i) :
    step s = exec i s := by
  unfold step
  rw [ho]
  simp only [blockStep, if_neg hp, hr]

end Sys2Proof.Machine
end

