-- ==== Sys2Proof/Laws/Sequencer.lean ====
section
/-! SUPPORT. The command lists of the Signal Sequencer: their counts, and that they hold emittable commands only. -/

namespace Sys2Proof.Machine

@[simp] theorem nShiftIn_nil : nShiftIn [] = 0 := rfl
@[simp] theorem nShiftIn_append (cs ds : List Instr) : nShiftIn (cs ++ ds) = nShiftIn cs + nShiftIn ds := by
  simp [nShiftIn]
@[simp] theorem nAckBearing_append (cs ds : List Instr) :
    nAckBearing (cs ++ ds) = nAckBearing cs + nAckBearing ds := by
  simp [nAckBearing]
@[simp] theorem nReadOps_append (cs ds : List Instr) : nReadOps (cs ++ ds) = nReadOps cs + nReadOps ds := by
  simp [nReadOps]

/-- A held level is no shift-in. -/
theorem filter_hold (v d : Byte) : (hold v d).filter isShiftIn = [] := by
  simp [hold, isShiftIn]

theorem writeBytes_cons (b : Byte) (bs : List Byte) (d : Byte) :
    writeBytes (b :: bs) d = writeByte b d ++ writeBytes bs d := by
  simp [writeBytes]

/-- The shift-ins of written bytes: one 1-bit shift-in each (R188). -/
theorem filter_writeBytes (bs : List Byte) (d : Byte) :
    (writeBytes bs d).filter isShiftIn = List.replicate bs.length (.shiftIn 1) := by
  induction bs with
  | nil => rfl
  | cons b bs ih =>
    rw [writeBytes_cons, List.filter_append, ih]
    rfl

/-- The shift-ins of read bytes: one 8-bit shift-in each (R190). -/
theorem filter_readBytes (n : Nat) (d : Byte) :
    (readBytes n d).filter isShiftIn = List.replicate n (.shiftIn 8) := by
  have h : ∀ ks : List Nat, (ks.flatMap fun k => readByte (k + 1 == n) d).filter isShiftIn =
      List.replicate ks.length (.shiftIn 8) := by
    intro ks
    induction ks with
    | nil => rfl
    | cons k ks ih =>
      rw [List.flatMap_cons, List.filter_append, ih]
      rfl
  simpa [readBytes] using h (List.range n)

/-- Held levels are commands the block emits. -/
theorem emittable_hold {v d : Byte} {c : Instr} (h : c ∈ hold v d) : emittable c = true := by
  simp [hold, List.mem_replicate] at h
  simp [h.2, emittable]

theorem emittable_writeBytes {bs : List Byte} {d : Byte} {c : Instr} (h : c ∈ writeBytes bs d) :
    emittable c = true := by
  simp only [writeBytes, List.mem_flatMap, writeByte, List.mem_cons, List.not_mem_nil, or_false] at h
  obtain ⟨b, -, rfl | rfl | rfl⟩ := h <;> rfl

theorem emittable_readBytes {n : Nat} {d : Byte} {c : Instr} (h : c ∈ readBytes n d) : emittable c = true := by
  simp only [readBytes, List.mem_flatMap, readByte, List.mem_cons, List.not_mem_nil, or_false] at h
  obtain ⟨b, -, rfl | rfl⟩ := h <;> rfl

/-- A command the block emits is a command, and has a byte form (R117). -/
theorem emittable_command {c : Instr} (h : emittable c = true) : c.isCommand = true ∧ c.WellFormed = true := by
  cases c <;> simp [emittable, Instr.isCommand, Instr.isRequest, Instr.WellFormed] at * <;> omega

end Sys2Proof.Machine
end

