-- ==== Sys2Proof/Tests/Slice0.lean ====
section
/-! SUPPORT. Tests with results taken from spec/95_test_vectors.md (the vector's name stands before each test) or
worked out by hand from the rule named, and a witness for the hypotheses of each obligation. -/

namespace Sys2Proof.Tests

open Sys2Proof.Machine

/-! ## Small states -/

/-- The state a step or a meaning answers, if it does not stop. -/
def after : Out → Option State
  | .next t => some t
  | .fault _ => none
  | .refused _ => none

/-- Configured, as OPEN leaves the block (V-L1). -/
def openS : State := { State.reset with cfg := true, dir := 0x03#8, val := 0x03#8 }

/-- One waiting request, of requester 7. -/
def asked (s : State) (frame : List Byte) : State := { s with waitq := [⟨7, frame⟩] }

/-- Requester 7's request in service, at a phase. -/
def serving (s : State) (i : Instr) (phase : Phase) : State :=
  { s with lock := .held 7, caller := 7, req := some i, phase := phase, serial := 1 }

/-- TRANSACT 0x50, [0x00], 4 (V-B3), and its frame (V-E5). -/
def scenario : Instr := .transact 0x50#16 [0x00#8] 4

def scenarioFrame : List Byte :=
  [0x03#8, 0x50#8, 0x00#8, 0x01#8, 0x00#8, 0x00#8, 0x00#8, 0x00#8, 0x04#8, 0x00#8, 0x00#8, 0x00#8]

/-! ## WellFormed: an ill-formed term for each check, and the last value it allows -/

theorem test_wf_channel : (Instr.openBus 256 false).WellFormed = false ∧ (Instr.openBus 255 false).WellFormed = true := by
  decide

theorem test_wf_freq_high :
    (Instr.setSpeed (2 ^ 63)).WellFormed = false ∧ (Instr.setSpeed (2 ^ 63 - 1)).WellFormed = true := by decide

theorem test_wf_freq_low :
    (Instr.setSpeed (-2 ^ 63 - 1)).WellFormed = false ∧ (Instr.setSpeed (-2 ^ 63)).WellFormed = true := by decide

theorem test_wf_rlen : (Instr.transact 0x50#16 [] (2 ^ 32)).WellFormed = false ∧
    (Instr.transact 0x50#16 [] (2 ^ 32 - 1)).WellFormed = true := by decide

/-- A payload of `2 ^ 32` bytes is too long to write out: the check is on its length alone. -/
theorem test_wf_wlen (w : List Byte) (h : w.length = 2 ^ 32) : (Instr.transact 0x50#16 w 0).WellFormed = false := by
  simp [Instr.WellFormed, h]

theorem test_wf_shiftOut : (Instr.shiftOut 0 0x80#8).WellFormed = false ∧ (Instr.shiftOut 9 0x80#8).WellFormed = false ∧
    (Instr.shiftOut 1 0x80#8).WellFormed = true ∧ (Instr.shiftOut 8 0x80#8).WellFormed = true := by decide

theorem test_wf_shiftIn : (Instr.shiftIn 0).WellFormed = false ∧ (Instr.shiftIn 9).WellFormed = false ∧
    (Instr.shiftIn 1).WellFormed = true ∧ (Instr.shiftIn 8).WellFormed = true := by decide

/-! ## Decoding: words written out from the encodings -/

/-- V-E1; and R102 with the top channel and the pull-up flag. -/
theorem test_decode_open : decode [0x01#8, 0x00#8, 0x00#8] = .instr (.openBus 0 false) [] ∧
    decode [0x01#8, 0xFF#8, 0x01#8] = .instr (.openBus 255 true) [] := by decide

/-- V-E3, V-E4. -/
theorem test_decode_setSpeed :
    decode [0x02#8, 0xA0#8, 0x86#8, 0x01#8, 0x00#8, 0x00#8, 0x00#8, 0x00#8, 0x00#8] = .instr (.setSpeed 100000) [] ∧
    decode [0x02#8, 0xFF#8, 0xFF#8, 0xFF#8, 0xFF#8, 0xFF#8, 0xFF#8, 0xFF#8, 0xFF#8] = .instr (.setSpeed (-1)) [] := by
  decide

/-- V-E5. -/
theorem test_decode_transact : decode scenarioFrame = .instr scenario [] := by decide

/-- V-E6. -/
theorem test_decode_transact_read :
    decode [0x03#8, 0x50#8, 0x00#8, 0x00#8, 0x00#8, 0x00#8, 0x00#8, 0x01#8, 0x00#8, 0x00#8, 0x00#8] =
      .instr (.transact 0x50#16 [] 1) [] := by decide

/-- V-E7. -/
theorem test_decode_single : decode [0x04#8] = .instr .closeBus [] ∧ decode [0x05#8] = .instr .clockPin [] ∧
    decode [0x06#8] = .instr .dataPin [] := by decide

/-- V-E8. -/
theorem test_decode_setPins : decode [0x80#8, 0x03#8, 0x01#8] = .instr (.setPins 0x03#8 0x01#8) [] := by decide

/-- V-E9, V-E10. -/
theorem test_decode_shiftOut : decode [0x13#8, 0x07#8, 0xA0#8] = .instr (.shiftOut 8 0xA0#8) [] ∧
    decode [0x13#8, 0x00#8, 0x80#8] = .instr (.shiftOut 1 0x80#8) [] := by decide

/-- V-E11. -/
theorem test_decode_shiftIn : decode [0x22#8, 0x00#8] = .instr (.shiftIn 1) [] ∧
    decode [0x22#8, 0x07#8] = .instr (.shiftIn 8) [] := by decide

/-- V-E12; a second word with the high byte set (R113: low byte first). -/
theorem test_decode_setDivisor : decode [0x86#8, 0x31#8, 0x00#8] = .instr (.setDivisor 49#16) [] ∧
    decode [0x86#8, 0x34#8, 0x12#8] = .instr (.setDivisor 0x1234#16) [] := by decide

/-- V-E13. -/
theorem test_decode_stream :
    decodeBatch [0x22#8, 0x07#8, 0x13#8, 0x00#8, 0x80#8, 0x80#8, 0x00#8, 0x03#8] =
      some [.shiftIn 8, .shiftOut 1 0x80#8, .setPins 0x00#8 0x03#8] := by decide

/-- Reserved codes, reserved bits and truncated forms are rejected by name (V-R1, R102, R111, R112, R119). -/
theorem test_decode_rejects : decode [0x00#8] = .rejected .reservedCode ∧ decode [0x07#8] = .rejected .reservedCode ∧
    decode [0xFF#8] = .rejected .reservedCode ∧ decode [0x01#8, 0x00#8, 0x02#8] = .rejected .reservedBits ∧
    decode [0x13#8, 0x08#8, 0x00#8] = .rejected .reservedBits ∧ decode [0x22#8, 0x80#8] = .rejected .reservedBits ∧
    decode [0x01#8, 0x00#8] = .rejected .truncated ∧ decode [] = .rejected .truncated := by decide

/-- A command opcode is no request code (R108), a request code no command (R117), and a frame holds one request. -/
theorem test_streams_apart : requestOf [0x80#8, 0x03#8, 0x03#8] = none ∧ commandAt [0x04#8] = none ∧
    requestOf [0x04#8, 0x04#8] = none := by decide

/-- The table's words, zeros in the operands. -/
theorem test_table_words : decodeTableWord 8 0x01 = some (.openBus 0 false) ∧ decodeTableWord 8 0x02 = some (.setSpeed 0) ∧
    decodeTableWord 8 0x03 = some (.transact 0#16 [] 0) ∧ decodeTableWord 24 0x030380 = some (.setPins 0x03#8 0x03#8) ∧
    decodeTableWord 16 0x0722 = some (.shiftIn 8) ∧ decodeTableWord 8 0x00 = none := by decide

/-- V-E14, V-E15, V-E16. -/
theorem test_completion_frames :
    completionFrame ⟨.ok, .rdata (some [0x11#8, 0x22#8, 0x33#8, 0x44#8])⟩ =
      [0x00#8, 0x01#8, 0x11#8, 0x22#8, 0x33#8, 0x44#8] ∧
    completionFrame ⟨.nakReceived, .rdata none⟩ = [0x03#8, 0x00#8] ∧
    completionFrame ⟨.ok, .pin 1⟩ = [0x00#8, 0x01#8] ∧ completionFrame ⟨.transportError, .nothing⟩ = [0x04#8] := by
  decide

/-! ## Command lists -/

/-- V-S1. -/
theorem test_levels : Lv true true = 0x03#8 ∧ Lv true false = 0x01#8 ∧ Lv false true = 0x02#8 ∧
    Lv false false = 0x00#8 := by decide

/-- V-S7: the release clears bit 1 of `d` only. -/
theorem test_writeByte : ser (writeByte 0x5A#8 0xFB#8) =
    [0x13#8, 0x07#8, 0x5A#8, 0x80#8, 0x00#8, 0xF9#8, 0x22#8, 0x00#8] := by decide

/-- V-S10. -/
theorem test_readBytes : ser (readBytes 3 0x03#8) =
    [0x22#8, 0x07#8, 0x13#8, 0x00#8, 0x00#8, 0x22#8, 0x07#8, 0x13#8, 0x00#8, 0x00#8,
      0x22#8, 0x07#8, 0x13#8, 0x00#8, 0x80#8] := by decide

/-- V-S12, V-S14. -/
theorem test_addrByte : addrByte 0x50#16 false = 0xA0#8 ∧ addrByte 0x50#16 true = 0xA1#8 ∧
    addrByte 0x7F#16 true = 0xFF#8 := by decide

/-- V-B1. -/
theorem test_batch_readOnly : ser (build 0x50#16 [] 1 0x03#8 openS).batch =
    [0x80#8, 0x01#8, 0x03#8, 0x80#8, 0x01#8, 0x03#8, 0x80#8, 0x01#8, 0x03#8, 0x80#8, 0x01#8, 0x03#8,
      0x80#8, 0x00#8, 0x03#8, 0x80#8, 0x00#8, 0x03#8, 0x80#8, 0x00#8, 0x03#8, 0x80#8, 0x00#8, 0x03#8,
      0x13#8, 0x07#8, 0xA0#8, 0x80#8, 0x00#8, 0x01#8, 0x22#8, 0x00#8,
      0x80#8, 0x00#8, 0x03#8, 0x80#8, 0x00#8, 0x03#8, 0x80#8, 0x00#8, 0x03#8, 0x80#8, 0x00#8, 0x03#8,
      0x80#8, 0x01#8, 0x03#8, 0x80#8, 0x01#8, 0x03#8, 0x80#8, 0x01#8, 0x03#8, 0x80#8, 0x01#8, 0x03#8,
      0x80#8, 0x03#8, 0x03#8, 0x80#8, 0x03#8, 0x03#8, 0x80#8, 0x03#8, 0x03#8, 0x80#8, 0x03#8, 0x03#8] := rfl

/-- V-B3, by its parts (indices 8 to 13 and 38 to 48) and its counters. -/
theorem test_batch_combined :
    (build 0x50#16 [0x00#8] 4 0x03#8 openS).batch.length = 61 ∧
    (build 0x50#16 [0x00#8] 4 0x03#8 openS).rcount = 7 ∧ (build 0x50#16 [0x00#8] 4 0x03#8 openS).rdlen = 4 ∧
    (build 0x50#16 [0x00#8] 4 0x03#8 openS).batch[8]? = some (.shiftOut 8 0xA0#8) ∧
    (build 0x50#16 [0x00#8] 4 0x03#8 openS).batch[11]? = some (.shiftOut 8 0x00#8) ∧
    (build 0x50#16 [0x00#8] 4 0x03#8 openS).batch[38]? = some (.shiftOut 8 0xA1#8) ∧
    (build 0x50#16 [0x00#8] 4 0x03#8 openS).batch[48]? = some (.shiftOut 1 0x80#8) := by
  refine ⟨rfl, rfl, rfl, rfl, rfl, rfl, rfl⟩

/-! ## One step of each instruction -/

/-- V-L2. -/
theorem test_open_pullUp : (after (step (asked State.reset [0x01#8, 0x00#8, 0x01#8]))).map (fun t => (t.cpl, t.cfg, t.history)) =
    some (some ⟨.unsupported, .nothing⟩, false, []) := rfl

/-- V-L1, its last phase. -/
theorem test_open_configures :
    (after (step { serving State.reset (.openBus 0 false) .flush1 with answers := [.ok []] })).map
      (fun t => (t.cfg, t.dir, t.val, t.cpl)) = some (true, 0x03#8, 0x03#8, some ⟨.ok, .nothing⟩) := rfl

/-- V-C9. -/
theorem test_setSpeed_outOfRange : (after (exec (.setSpeed 10000001) openS)).map State.cpl =
    some (some ⟨.outOfRange, .nothing⟩) := rfl

/-- V-C3. -/
theorem test_setSpeed_scales :
    (after (step { serving openS (.setSpeed 101) .clockset with answers := [.ok []] })).map
      (fun t => (t.history, t.cpl)) = some ([⟨1, .adpClockSet 67⟩], some ⟨.ok, .nothing⟩) := rfl

/-- V-X2. -/
theorem test_transact_nak :
    (after (step { serving openS scenario .validate with
      rcount := 7, rdlen := 4, resp := [0x00#8, 0x01#8, 0x00#8, 0x11#8, 0x22#8, 0x33#8, 0x44#8] })).map State.cpl =
      some (some ⟨.nakReceived, .rdata none⟩) := rfl

/-- V-X6. -/
theorem test_transact_data :
    (after (step { serving openS scenario .copy with
      rcount := 7, rdlen := 4, resp := [0x00#8, 0x00#8, 0x00#8, 0xFF#8, 0x01#8, 0x03#8, 0x05#8] })).map State.cpl =
      some (some ⟨.ok, .rdata (some [0xFF#8, 0x01#8, 0x03#8, 0x05#8])⟩) := rfl

/-- V-L8. -/
theorem test_close_failing :
    (after (step { serving openS .closeBus .reset with answers := [.err] })).map
      (fun t => (t.cfg, t.dir, t.val, t.cpl)) = some (false, 0x00#8, 0x00#8, some ⟨.transportError, .nothing⟩) := rfl

/-- V-L9. -/
theorem test_clockPin : (after (step (asked State.reset [0x05#8]))).map State.cpl = some (some ⟨.ok, .pin 0⟩) := rfl

/-- V-L10. -/
theorem test_dataPin : (after (step (asked openS [0x06#8]))).map State.cpl = some (some ⟨.ok, .pin 1⟩) := rfl

/-- R80, R164: a TRANSACT whose read fails keeps the traffic and the clock. -/
theorem test_failed_read : (after (step { serving openS scenario .read with
    answers := [.err], adapter := { Adapter.reset with clock := .divisor 49#16, trace := [.clockIn true] } })).map
      (fun t => (t.adapter.clock, t.adapter.trace, t.cpl)) =
    some (.divisor 49#16, [.clockIn true], some ⟨.transportError, .rdata none⟩) := rfl

/-- R142. -/
theorem test_setPins : (after (exec (.setPins 0x02#8 0x03#8) State.reset)).map
    (fun t => (t.adapter.pinOut, t.adapter.pinDir)) = some (0x02#8, 0x03#8) := rfl

/-- R143: 0xA0 is 10100000, bit 7 first. -/
theorem test_shiftOut : (after (exec (.shiftOut 4 0xA0#8) State.reset)).map (fun t => t.adapter.trace) =
    some [.clockOut true, .clockOut false, .clockOut true, .clockOut false] := rfl

/-- R145: one response byte for one shift-in of any length. -/
theorem test_shiftIn : (after (exec (.shiftIn 8) State.reset)).map (fun t => t.adapter.inStream.length) = some 1 := rfl

/-- R118, R144 by hand: of three sampled bits 1, 0, 1 the first stands in bit 2; bits 7:3 stay as they were. -/
theorem test_responseByte : responseByte 0xF8#8 [true, false, true] = 0xFD#8 ∧
    responseByte 0x0F#8 [true, false, true] = 0x0D#8 := by decide

/-- R146. -/
theorem test_setDivisor : (after (exec (.setDivisor 49#16) State.reset)).map (fun t => t.adapter.clock) =
    some (.divisor 49#16) := rfl

/-- V-R4, V-R3: refused, with no completion and no lock. -/
theorem test_refused : (after (step (asked State.reset scenarioFrame))).map (fun t => (t.refused, t.lock, t.cpl, t.waitq)) =
      some (true, .free, none, []) ∧
    (after (step (asked openS [0x03#8, 0x80#8, 0x00#8, 0x01#8, 0x00#8, 0x00#8, 0x00#8, 0x00#8, 0x01#8, 0x00#8, 0x00#8,
      0x00#8]))).map (fun t => (t.refused, t.lock, t.cpl)) = some (true, .free, none) := ⟨rfl, rfl⟩

/-- A table word fetched right after creation: a request, and a command. -/
theorem test_fetch : (after (step (State.reset.withFetchWord 8 0x06))).map State.cpl = some (some ⟨.ok, .pin 1⟩) ∧
    (after (step (State.reset.withFetchWord 24 0x030280))).map (fun t => (t.adapter.pinOut, t.adapter.pinDir)) =
      some (0x02#8, 0x03#8) := ⟨rfl, rfl⟩

/-- R120. -/
theorem test_text : scenario.text = "TRANSACT 80, [0], 4" ∧ (Instr.openBus 0 true).text = "OPEN 0, pullup" ∧
    (Instr.setPins 0x03#8 0x01#8).text = "SETPINS 3, 1" := by decide

/-! ## Witnesses: for each obligation, a state and operands that meet its hypotheses -/

/-- A TRANSACT in service after its `BUILD`, with four answers ready and another request waiting. -/
def busy : State := { serving openS scenario .flush0 with
  batch := (build 0x50#16 [0x00#8] 4 0x03#8 State.reset).batch, rcount := 7, rdlen := 4
  waitq := [⟨8, [0x04#8]⟩], answers := [.ok [], .ok [], .ok [], .err], history := [⟨1, .adpEnterI2C⟩] }

/-- A CLOCK_PIN about to be released. -/
def finished : State := { serving openS .clockPin .done with cpl := some ⟨.ok, .pin 0⟩ }

/-- The adapter in the middle of a written batch. -/
def draining : State := { serving openS scenario .flush1 with
  batch := (build 0x50#16 [0x00#8] 4 0x03#8 State.reset).batch, rcount := 7, rdlen := 4
  outStream := [0x22#8, 0x00#8, 0x80#8, 0x03#8, 0x03#8] }

theorem witness_invariant_busy : StateInv busy where
  ready_free := by decide
  ready_noReq := by decide
  done_cpl := by decide
  onPath := by rintro i ⟨⟩; decide
  admitted := by rintro i ⟨⟩ _; decide
  returns := by rintro i c _ ⟨⟩
  ready_empty := by rintro ⟨⟩
  configured := fun _ => ⟨rfl, rfl⟩
  notConfigured := by rintro ⟨⟩
  awaits := by rintro ⟨⟩
  built := by rintro _ _ _ ⟨⟩ _; exact ⟨rfl, rfl, rfl⟩
  openBuilt := by rintro _ _ ⟨⟩
  answered := by rintro (⟨⟨⟩⟩ | ⟨⟨⟩⟩)
  stream := ⟨[], by simp, rfl⟩
  contiguous := by decide
  oneEach := ⟨by decide, by rintro r ⟨⟩; decide⟩

theorem witness_invariant_finished : StateInv finished where
  ready_free := by decide
  ready_noReq := by decide
  done_cpl := by decide
  onPath := by rintro i ⟨⟩; decide
  admitted := by rintro i ⟨⟩ h; exact absurd rfl h
  returns := by rintro i c ⟨⟩ ⟨⟩; decide
  ready_empty := by rintro ⟨⟩
  configured := fun _ => ⟨rfl, rfl⟩
  notConfigured := by rintro ⟨⟩
  awaits := by rintro ⟨⟩
  built := by rintro _ _ _ ⟨⟩
  openBuilt := by rintro _ _ ⟨⟩
  answered := by rintro (⟨⟨⟩⟩ | ⟨⟨⟩⟩)
  stream := ⟨[], by simp, rfl⟩
  contiguous := by decide
  oneEach := ⟨by decide, by rintro r ⟨⟩; decide⟩

theorem witness_invariant_draining : StateInv draining where
  ready_free := by decide
  ready_noReq := by decide
  done_cpl := by decide
  onPath := by rintro i ⟨⟩; decide
  admitted := by rintro i ⟨⟩ _; decide
  returns := by rintro i c _ ⟨⟩
  ready_empty := by rintro ⟨⟩
  configured := fun _ => ⟨rfl, rfl⟩
  notConfigured := by rintro ⟨⟩
  awaits := by rintro ⟨⟩
  built := by rintro _ _ _ ⟨⟩ _; exact ⟨rfl, rfl, rfl⟩
  openBuilt := by rintro _ _ ⟨⟩
  answered := by rintro (⟨⟨⟩⟩ | ⟨⟨⟩⟩)
  stream := ⟨[.shiftIn 1, .setPins 0x03#8 0x03#8], by decide, rfl⟩
  contiguous := by decide
  oneEach := ⟨by decide, by rintro r ⟨⟩; decide⟩

theorem witness_DecodeReadsBackEveryEncoding :
    scenario.WellFormed = true ∧ (Instr.openBus 255 true).WellFormed = true ∧
    (Instr.setSpeed (-2 ^ 63)).WellFormed = true ∧ (Instr.shiftOut 8 0xA0#8).WellFormed = true := by decide

theorem witness_DecodedBytesAreTheEncoding : decode (scenarioFrame ++ [0xFF#8]) = .instr scenario [0xFF#8] := by decide

theorem witness_SerializedBatchIsReadBack :
    ∀ c ∈ [Instr.setPins 0x03#8 0x03#8, .shiftOut 8 0xA0#8, .shiftIn 1, .setDivisor 49#16],
      c.isCommand = true ∧ c.WellFormed = true := by decide

/-- The first clause at both ends of the range, inside and outside, and both clauses on the answer. -/
theorem witness_SetSpeedSucceedsExactlyInRange :
    openS.phase = .ready ∧ openS.cfg = true ∧
    (100 ≤ (100 : Int) ∧ (100 : Int) ≤ 10000000) ∧ (100 ≤ (10000000 : Int) ∧ (10000000 : Int) ≤ 10000000) ∧
    ((99 : Int) < 100 ∨ 10000000 < (99 : Int)) ∧ ((10000001 : Int) < 100 ∨ 10000000 < (10000001 : Int)) ∧
    ({ serving openS (.setSpeed 100) .clockset with answers := [.ok []] } : State).answers = .ok [] :: [] ∧
    ({ serving openS (.setSpeed 100) .clockset with answers := [.err] } : State).answers = .err :: [] ∧
    (serving openS (.setSpeed 100) .clockset).phase = .clockset := by decide

theorem witness_SetSpeedForwardsTheScaledValue :
    (serving openS (.setSpeed 101) .clockset).phase = .clockset ∧
    ({ serving openS (.setSpeed 101) .clockset with answers := [.ok [], .err] } : State).answers =
      .ok [] :: [.err] := by decide

theorem witness_ScaledFrequencyIsTwoThirds :
    (100 ≤ (100 : Int) ∧ (100 : Int) ≤ 10000000) ∧ (100 ≤ (10000000 : Int) ∧ (10000000 : Int) ≤ 10000000) := by decide

theorem witness_StartAndStopSignatures : (0x03#8).getLsbD 0 = true ∧ (0x03#8).getLsbD 1 = true := by decide

theorem witness_AddressByteHoldsAddressAndDirection : (0x7F#16).toNat ≤ 0x7F ∧ (0x00#16).toNat ≤ 0x7F := by decide

theorem witness_WrittenBytesGoOutInOrder : [0xA0#8, 0x00#8][0]? = some 0xA0#8 ∧ [0xA0#8, 0x00#8][1]? = some 0x00#8 := by
  decide

theorem witness_OnlyTheLastReadByteIsNaked : 0 < 3 ∧ 2 < 3 ∧ 2 + 1 = 3 ∧ ¬0 + 1 = 3 := by decide

/-- One set of operands for each of the three clauses; the first asks nothing of `rlen`. -/
theorem witness_BatchOfEachTransaction :
    ([] : List Byte) = [] ∧ ([0x10#8, 0xAB#8] ≠ [] ∧ 0 = 0) ∧ ([0x00#8] ≠ [] ∧ 1 ≤ 1) := by decide

/-- Both clauses, and both grounds of the first. -/
theorem witness_BatchSizes :
    (([] : List Byte) = [] ∨ 1 = 0) ∧ ([0x10#8] = [] ∨ 0 = 0) ∧ ([0x00#8] ≠ [] ∧ 1 ≠ 0) := by decide

theorem witness_ShiftOutSendsTheTopBitsFirst : (1 ≤ 1 ∧ 1 ≤ 8) ∧ (1 ≤ 8 ∧ 8 ≤ 8) := by decide

theorem witness_ShiftInAppendsOneResponseByte : (1 ≤ 1 ∧ 1 ≤ 8) ∧ (1 ≤ 8 ∧ 8 ≤ 8) := by decide

theorem witness_OneResponseByteForEachShiftIn :
    (∀ c ∈ [Instr.shiftIn 1, .setPins 0x03#8 0x03#8], c.isCommand = true ∧ c.WellFormed = true) ∧
    draining.outStream = ser [.shiftIn 1, .setPins 0x03#8 0x03#8] ∧
    [Instr.shiftIn 1, .setPins 0x03#8 0x03#8] = [.shiftIn 1] ++ [.setPins 0x03#8 0x03#8] := by decide

theorem witness_OnlyEmittableCommandsAreBuilt :
    Instr.shiftIn 8 ∈ (build 0x50#16 [0x00#8] 4 0x03#8 openS).batch ∧ Instr.setDivisor 49#16 ∈ openBatch 0x03#8 := by
  decide

/-- The one waiting request is the one served. -/
theorem asked_pick (s : State) (frame : List Byte) :
    (asked s frame).waitq[(asked s frame).pick]? = some ⟨7, frame⟩ := rfl

/-- Each ground of refusal, for `asked_pick`: a frame that holds no request, OPEN while configured, SET_SPEED and TRANSACT while not, and
TRANSACT with an address above 0x7F. -/
theorem witness_RefusedRequestHasNoEffect :
    openS.outStream = [] ∧ openS.phase = .ready ∧ openS.lock = .free ∧
    (asked openS [0x07#8]).waitq[(asked openS [0x07#8]).pick]? = some ⟨7, [0x07#8]⟩ ∧
    requestOf [0x07#8] = none ∧
    (requestOf [0x01#8, 0x00#8, 0x00#8] = some (.openBus 0 false) ∧ openS.cfg = true) ∧
    (requestOf [0x02#8, 0x64#8, 0x00#8, 0x00#8, 0x00#8, 0x00#8, 0x00#8, 0x00#8, 0x00#8] = some (.setSpeed 100) ∧
      State.reset.cfg = false) ∧
    (requestOf scenarioFrame = some scenario ∧ State.reset.cfg = false) ∧
    (requestOf [0x03#8, 0x80#8, 0x00#8, 0x00#8, 0x00#8, 0x00#8, 0x00#8, 0x00#8, 0x00#8, 0x00#8, 0x00#8] =
      some (.transact 0x80#16 [] 0) ∧ 0x7F < (0x80#16).toNat) := by decide

theorem witness_ReservedFramesHoldNoRequest :
    ((0x00#8).toNat = 0 ∨ 0x07 ≤ (0x00#8).toNat) ∧ ((0x07#8).toNat = 0 ∨ 0x07 ≤ (0x07#8).toNat) ∧
    ((0xFF#8).toNat = 0 ∨ 0x07 ≤ (0xFF#8).toNat) ∧ 2 ≤ (0x02#8).toNat := by decide

/-- TRANSACT with the top address; the conditions on the other requests do not apply to it. -/
theorem witness_AdmittedRequestTakesTheLock :
    openS.phase = .ready ∧ (Instr.transact 0x7F#16 [] 1).isRequest = true ∧ openS.cfg = true ∧ (0x7F#16).toNat ≤ 0x7F ∧
    State.reset.phase = .ready ∧ (Instr.openBus 0 true).isRequest = true ∧ State.reset.cfg = false := by decide

/-- One state for each clause. -/
theorem witness_OpenCompletesPhaseByPhase :
    (serving State.reset (.openBus 0 false) .build).phase = .build ∧
    ({ serving State.reset (.openBus 0 false) .enter with answers := [.ok []] } : State).answers = .ok [] :: [] ∧
    (serving State.reset (.openBus 0 false) .enter).phase = .enter ∧
    (serving State.reset (.openBus 0 false) .write).phase = .write ∧
    (serving State.reset (.openBus 0 false) .flush1).phase = .flush1 := by decide

theorem witness_CloseClearsTheMasksWhateverTheAnswer :
    (serving openS .closeBus .reset).phase = .reset ∧
    ({ serving openS .closeBus .reset with answers := [.ok []] } : State).answers = .ok [] :: [] ∧
    ({ serving openS .closeBus .reset with answers := [.err] } : State).answers = .err :: [] := by decide

/-- One state for each clause. -/
theorem witness_TransactInteractsInOrder :
    (serving openS scenario .build).phase = .build ∧
    ({ serving openS scenario .flush0 with answers := [.ok [0x01#8]] } : State).answers = .ok [0x01#8] :: [] ∧
    (serving openS scenario .flush0).phase = .flush0 ∧ (serving openS scenario .write).phase = .write ∧
    (serving openS scenario .flush1).phase = .flush1 ∧ (serving openS scenario .read).phase = .read ∧
    [0x01#8].length = ({ serving openS scenario .read with rcount := 1 } : State).rcount := by decide

theorem witness_TransactCopiesTheTrailingBytes :
    ({ serving openS scenario .copy with resp := [0x00#8, 0x5A#8], rcount := 2, rdlen := 1 } : State).phase = .copy ∧
    [0x00#8, 0x5A#8] = [0x00#8] ++ [0x5A#8] ∧ 2 = ([0x00#8] ++ [0x5A#8]).length ∧ 1 = [0x5A#8].length ∧
    [0x01#8] = [0x01#8] ++ [] ∧ 0 = ([] : List Byte).length := by decide

/-- A NAK in the last byte of the region, and a response with none. -/
theorem witness_AnyNakFailsTheTransaction :
    (serving openS scenario .validate).phase = .validate ∧
    (∃ k b, k < 7 - 4 ∧ [0x00#8, 0x00#8, 0x01#8, 0x11#8][k]? = some b ∧ b.getLsbD 0 = true) ∧
    ∀ k b, k < 7 - 4 → [0xFE#8, 0x00#8, 0x00#8, 0x01#8][k]? = some b → b.getLsbD 0 = false := by
  refine ⟨rfl, ⟨2, 0x01#8, by decide, rfl, rfl⟩, ?_⟩
  intro k b hk hb
  obtain rfl | rfl | rfl : k = 0 ∨ k = 1 ∨ k = 2 := by omega
  all_goals cases hb; rfl

theorem witness_DoneReleasesAndDelivers :
    Instr.clockPin.isRequest = true ∧ finished.phase = .done ∧ finished.cpl = some ⟨.ok, .pin 0⟩ := by decide

/-- CLOSE, and another request; an error, and a read of too few and of too many bytes. -/
theorem witness_FailedInteractionEndsTheRequest :
    (scenario.isRequest = true ∧ (serving openS scenario .read).phase ∈ pathOf scenario ∧
      (serving openS scenario .read).phase.interacts = true) ∧
    (Instr.closeBus.isRequest = true ∧ (serving openS .closeBus .reset).phase ∈ pathOf .closeBus ∧
      (serving openS .closeBus .reset).phase.interacts = true) ∧
    ({ serving openS scenario .read with answers := [.err, .ok []] } : State).answers = .err :: [.ok []] ∧
    (serving openS scenario .read).interaction scenario = some (.txRead 0) ∧
    ({ serving openS scenario .read with rcount := 7 } : State).interaction scenario = some (.txRead 7) ∧
    Answer.err.fails (.txRead 0) ∧ (Answer.ok [0x00#8]).fails (.txRead 7) ∧ (Answer.ok [0x00#8]).fails (.txRead 0) := by
  refine ⟨by decide, by decide, rfl, rfl, rfl, .inl rfl, .inr ⟨7, [0x00#8], rfl, rfl, by decide⟩,
    .inr ⟨0, [0x00#8], rfl, rfl, by decide⟩⟩

/-- Before the interaction is made, and after. -/
theorem witness_UnansweredInteractionHolds :
    scenario.isRequest = true ∧ (serving openS scenario .read).phase ∈ pathOf scenario ∧
    (serving openS scenario .read).phase.interacts = true ∧ (serving openS scenario .read).answers = [] ∧
    (serving openS scenario .read).awaiting = false ∧
    ({ serving openS scenario .read with awaiting := true } : State).awaiting = true := by decide

/-- One state for each clause. -/
theorem witness_StepRunsTheDecodedInstruction :
    (decode draining.outStream = .instr (.shiftIn 1) [0x80#8, 0x03#8, 0x03#8] ∧ (Instr.shiftIn 1).isCommand = true) ∧
    ((asked openS [0x04#8]).outStream = [] ∧ (asked openS [0x04#8]).phase = .ready ∧
      (asked openS [0x04#8]).lock = .free ∧
      (asked openS [0x04#8]).waitq[(asked openS [0x04#8]).pick]? = some ⟨7, [0x04#8]⟩ ∧
      decode [0x04#8] = .instr .closeBus [] ∧ Instr.closeBus.isRequest = true) ∧
    (busy.outStream = [] ∧ busy.phase ≠ .ready ∧ busy.req = some scenario) := by decide

/-- States that meet the invariant and step: a phase of a request, the release, an adapter command. -/
theorem witness_StepKeepsTheInvariant :
    (StateInv busy ∧ ∃ t, step busy = .next t) ∧ (StateInv finished ∧ ∃ t, step finished = .next t) ∧
    (StateInv draining ∧ ∃ t, step draining = .next t) :=
  ⟨⟨witness_invariant_busy, _, rfl⟩, ⟨witness_invariant_finished, _, rfl⟩, ⟨witness_invariant_draining, _, rfl⟩⟩

theorem witness_InputsKeepTheInvariant : StateInv busy := witness_invariant_busy

theorem witness_MachineNeverStops : StateInv draining := witness_invariant_draining

theorem witness_OnlyOpenAndCloseWriteTheMasks :
    ∃ t, step { serving openS .closeBus .reset with answers := [.ok []] } = .next t := ⟨_, rfl⟩

theorem witness_DirectionsWhileConfigured : (∃ t, step busy = .next t) ∧
    (busy.cfg = true → fieldScl busy.dir = true ∧ fieldSdaOut busy.dir = true ∧ fieldSdaIn busy.dir = false) ∧
    busy.cfg = true := ⟨⟨_, rfl⟩, by decide, rfl⟩

/-- A failing phase of a TRANSACT, and a command. -/
theorem witness_ClockSettingLivesUntilReplaced :
    (StateInv busy ∧ ∃ t, step busy = .next t) ∧ (StateInv draining ∧ ∃ t, step draining = .next t) :=
  ⟨⟨witness_invariant_busy, _, rfl⟩, ⟨witness_invariant_draining, _, rfl⟩⟩

theorem witness_StatusesOfEachRequest : openS.cpl = none ∧
    ∃ t c, exec (.setSpeed 99) openS = .next t ∧ t.cpl = some c ∧ c.status = .outOfRange := ⟨rfl, _, _, rfl, rfl, rfl⟩

theorem witness_InteractionsOfEachRequest : ∃ t, exec scenario busy = .next t ∧ t.history ≠ busy.history :=
  ⟨_, rfl, by decide⟩

/-- A request that goes on, and one at `DONE`. -/
theorem witness_LockIsHeldUntilDone :
    (StateInv busy ∧ (∃ t, step busy = .next t) ∧ busy.lock = .held 7) ∧
    (StateInv finished ∧ (∃ t, step finished = .next t) ∧ finished.lock = .held 7) :=
  ⟨⟨witness_invariant_busy, ⟨_, rfl⟩, rfl⟩, ⟨witness_invariant_finished, ⟨_, rfl⟩, rfl⟩⟩

theorem witness_BatchIsFixedAfterBuild :
    (StateInv busy ∧ (∃ t, step busy = .next t) ∧ busy.phase.afterBuild = true) ∧
    (StateInv draining ∧ (∃ t, step draining = .next t) ∧ draining.phase.afterBuild = true) :=
  ⟨⟨witness_invariant_busy, ⟨_, rfl⟩, rfl⟩, ⟨witness_invariant_draining, ⟨_, rfl⟩, rfl⟩⟩

theorem witness_RecordsOnlyGrow : (∃ t, step { busy with refused := true } = .next t) ∧
    ({ busy with refused := true } : State).refused = true := ⟨⟨_, rfl⟩, rfl⟩

theorem witness_CleanRunsAreCleanThroughout : ∃ t, CleanRun busy 2 t ∧ 1 ≤ 2 := ⟨_, ⟨rfl, rfl⟩, by decide⟩

theorem witness_ArrivalsDuringServiceWait : StateInv busy ∧ busy.phase ≠ .ready ∧ busy.phase ≠ .done ∧
    ∃ t, step busy = .next t := ⟨witness_invariant_busy, by decide, by decide, _, rfl⟩

theorem witness_ValIsNeverRead : ∃ t, step busy = .next t := ⟨_, rfl⟩

/-- With instances of two channels. -/
theorem witness_InstancesAreIndependent : 0 ≠ 1 ∧ (∃ a, stepInstance 0 [busy, { draining with ident := 1 }] = .next a) ∧
    (∃ b, stepInstance 1 [busy, { draining with ident := 1 }] = .next b) ∧ (instances 2).map State.ident = [0, 1] :=
  ⟨by decide, ⟨_, rfl⟩, ⟨_, rfl⟩, rfl⟩

/-- With 7 response bytes for the scenario (V-X1). -/
theorem witness_TransactRunsToItsCompletion : (asked openS scenarioFrame).atRest ∧
    (asked openS scenarioFrame).cfg = true ∧
    (asked openS scenarioFrame).waitq[(asked openS scenarioFrame).pick]? = some ⟨7, scenarioFrame⟩ ∧
    requestOf scenarioFrame = some scenario ∧ (0x50#16).toNat ≤ 0x7F ∧
    ({ asked openS scenarioFrame with answers := [.ok [], .ok [], .ok [],
      .ok [0x00#8, 0x00#8, 0x00#8, 0x11#8, 0x22#8, 0x33#8, 0x44#8]] } : State).answers =
      .ok [] :: .ok [] :: .ok [] :: .ok [0x00#8, 0x00#8, 0x00#8, 0x11#8, 0x22#8, 0x33#8, 0x44#8] :: [] ∧
    [0x00#8, 0x00#8, 0x00#8, 0x11#8, 0x22#8, 0x33#8, 0x44#8].length =
      (build 0x50#16 [0x00#8] 4 (asked openS scenarioFrame).dir (asked openS scenarioFrame)).rcount :=
  ⟨⟨rfl, rfl, rfl, rfl⟩, rfl, rfl, rfl, by decide, rfl, rfl⟩

/-- With three good answers before the failure, and with none (V-T4, V-T1); and with a read of six bytes for seven. -/
theorem witness_TransactStopsAtTheFirstFailure : (asked openS scenarioFrame).atRest ∧
    (asked openS scenarioFrame).cfg = true ∧
    (asked openS scenarioFrame).waitq[(asked openS scenarioFrame).pick]? = some ⟨7, scenarioFrame⟩ ∧
    requestOf scenarioFrame = some scenario ∧ (0x50#16).toNat ≤ 0x7F ∧
    (([[], [], []] : List (List Byte)).length ≤ 3 ∧
      ({ asked openS scenarioFrame with answers := [.ok [], .ok [], .ok [], .err] } : State).answers =
        [[], [], []].map Answer.ok ++ .err :: []) ∧
    (([] : List (List Byte)).length ≤ 3 ∧
      ({ asked openS scenarioFrame with answers := [.err] } : State).answers = [].map Answer.ok ++ .err :: []) ∧
    (({ asked openS scenarioFrame with answers := [.ok [], .ok [], .ok [], .ok (List.replicate 6 0x00#8)] } :
        State).answers = [[], [], []].map Answer.ok ++ .ok (List.replicate 6 0x00#8) :: [] ∧
      (List.replicate 6 0x00#8).length ≠ (build 0x50#16 [0x00#8] 4 openS.dir openS).rcount) :=
  ⟨⟨rfl, rfl, rfl, rfl⟩, rfl, rfl, rfl, by decide, ⟨by decide, rfl⟩, ⟨by decide, rfl⟩, rfl, by decide⟩

theorem witness_OpenRunsToItsCompletion : (asked State.reset [0x01#8, 0x00#8, 0x00#8]).atRest ∧
    (asked State.reset [0x01#8, 0x00#8, 0x00#8]).cfg = false ∧
    (asked State.reset [0x01#8, 0x00#8, 0x00#8]).waitq[(asked State.reset [0x01#8, 0x00#8, 0x00#8]).pick]? =
      some ⟨7, [0x01#8, 0x00#8, 0x00#8]⟩ ∧
    requestOf [0x01#8, 0x00#8, 0x00#8] = some (.openBus 0 false) ∧
    ({ asked State.reset [0x01#8, 0x00#8, 0x00#8] with answers := [.ok [], .ok [], .ok []] } : State).answers =
      .ok [] :: .ok [] :: .ok [] :: [] := ⟨⟨rfl, rfl, rfl, rfl⟩, rfl, rfl, rfl, rfl⟩

/-- Configured and not. -/
theorem witness_CloseRunsAlikeTheSecondTime : (asked openS [0x04#8]).atRest ∧ (asked State.reset [0x04#8]).atRest ∧
    (asked openS [0x04#8]).waitq[(asked openS [0x04#8]).pick]? = some ⟨7, [0x04#8]⟩ ∧
    ({ asked openS [0x04#8] with answers := [.err] } : State).answers = .err :: [] :=
  ⟨⟨rfl, rfl, rfl, rfl⟩, ⟨rfl, rfl, rfl, rfl⟩, rfl, rfl⟩

theorem witness_SecondCloseLeavesTheAdapterAsItWas :
    ({ openS with waitq := [⟨7, [0x04#8]⟩, ⟨8, [0x04#8]⟩], answers := [.ok [], .ok []] } : State).atRest ∧
    ({ openS with waitq := [⟨7, [0x04#8]⟩, ⟨8, [0x04#8]⟩] } : State).waitq = [⟨7, [0x04#8]⟩, ⟨8, [0x04#8]⟩] ∧
    ({ openS with answers := [.ok [], .ok []] } : State).answers = .ok [] :: .ok [] :: [] :=
  ⟨⟨rfl, rfl, rfl, rfl⟩, rfl, rfl⟩

/-- CLOCK_PIN and DATA_PIN. -/
theorem witness_PinIntrospectionRunsToItsCompletion : (asked openS [0x05#8]).atRest ∧
    (asked openS [0x05#8]).waitq[(asked openS [0x05#8]).pick]? = some ⟨7, [if true then 0x05#8 else 0x06#8]⟩ ∧
    (asked openS [0x06#8]).waitq[(asked openS [0x06#8]).pick]? = some ⟨7, [if false then 0x05#8 else 0x06#8]⟩ :=
  ⟨⟨rfl, rfl, rfl, rfl⟩, rfl, rfl⟩

/-- Requesters 7 and 8, the scenario and a CLOSE. -/
theorem witness_TransactAndCloseInEitherOrder :
    ({ openS with waitq := [⟨7, scenarioFrame⟩, ⟨8, [0x04#8]⟩], answers := [.ok [], .ok [], .ok [],
      .ok (List.replicate 7 0x00#8), .ok []] } : State).atRest ∧ openS.cfg = true ∧
    requestOf scenarioFrame = some scenario ∧ (0x50#16).toNat ≤ 0x7F ∧
    (List.replicate 7 0x00#8).length = (build 0x50#16 [0x00#8] 4 openS.dir openS).rcount :=
  ⟨⟨rfl, rfl, rfl, rfl⟩, rfl, rfl, by decide, rfl⟩

theorem witness_EveryRequestInServiceFinishes : StateInv busy ∧ busy.phase ≠ .ready ∧ 4 ≤ busy.answers.length ∧
    busy.req = some scenario := ⟨witness_invariant_busy, by decide, by decide, rfl⟩

end Sys2Proof.Tests
end

section
/-! PROOFS. Facts of the decoder that the invariant needs: commands are read back from a stream, and what a frame holds
has operands that fit their fields. -/

namespace Sys2Proof

/-! ## Reading back what was written -/

/-- A command with a byte form is read back from it, whatever follows (R110 to R116). -/
theorem decode_encode_command {c : Instr} (hc : c.isCommand = true) (hw : c.WellFormed = true) (rest : List Byte) :
    decode (encode c ++ rest) = .instr c rest := by
  cases c <;> simp [Instr.isCommand, Instr.isRequest] at hc <;> simp [Instr.WellFormed] at hw
  case setPins value dir => rfl
  case shiftOut n data =>
    show decodeShiftOut (countByte n :: data :: rest) = _
    simp only [decodeShiftOut, decodeCount_countByte hw.1 hw.2]
  case shiftIn n =>
    show decodeShiftIn (countByte n :: rest) = _
    simp only [decodeShiftIn, decodeCount_countByte hw.1 hw.2]
  case setDivisor div =>
    show Decoded.instr (.setDivisor _) rest = _
    congr 2
    ext k hk
    by_cases h8 : k < 8
    · simp [h8, hk]
    · have hk' : k - 8 < 8 := by omega
      simp [h8, hk', hk, Nat.add_sub_cancel' (Nat.le_of_not_lt h8)]

/-! ## Operands that were read fit their fields -/

theorem wellFormed_of_decodeOpen {bs rest : List Byte} {i : Instr} (h : decodeOpen bs = .instr i rest) :
    i.WellFormed = true := by
  unfold decodeOpen at h
  split at h
  case h_1 channel flags _ =>
    split_ifs at h
    cases h
    simpa [Instr.WellFormed] using channel.isLt
  case h_2 => cases h

theorem wellFormed_of_decodeSetSpeed {bs rest : List Byte} {i : Instr} (h : decodeSetSpeed bs = .instr i rest) :
    i.WellFormed = true := by
  unfold decodeSetSpeed at h
  split at h
  case h_1 f _ hs =>
    cases h
    have hlt := leNat_lt f
    rw [(splitBytes_some hs).2] at hlt
    rw [Instr.WellFormed, Bool.and_eq_true, decide_eq_true_iff, decide_eq_true_iff, signed64]
    split <;> omega
  case h_2 => cases h

theorem wellFormed_of_decodeTransact {bs rest : List Byte} {i : Instr} (h : decodeTransact bs = .instr i rest) :
    i.WellFormed = true := by
  unfold decodeTransact at h
  split at h <;> [cases h; skip]
  split at h <;> [cases h; skip]
  rename_i wlen _ hwlen
  split at h <;> [cases h; skip]
  rename_i w _ hw
  split at h <;> [cases h; skip]
  rename_i rlen _ hrlen
  cases h
  have hwlen' := leNat_lt wlen
  have hrlen' := leNat_lt rlen
  rw [(splitBytes_some hwlen).2] at hwlen'
  rw [(splitBytes_some hrlen).2] at hrlen'
  simp only [Instr.WellFormed, Bool.and_eq_true, decide_eq_true_iff, (splitBytes_some hw).2]
  omega

theorem wellFormed_of_decodeShiftOut {bs rest : List Byte} {i : Instr} (h : decodeShiftOut bs = .instr i rest) :
    i.WellFormed = true := by
  unfold decodeShiftOut at h
  split at h <;> [skip; cases h]
  split at h <;> [skip; cases h]
  rename_i hn
  cases h
  simpa [Instr.WellFormed] using (decodeCount_some hn).2

theorem wellFormed_of_decodeShiftIn {bs rest : List Byte} {i : Instr} (h : decodeShiftIn bs = .instr i rest) :
    i.WellFormed = true := by
  unfold decodeShiftIn at h
  split at h <;> [skip; cases h]
  split at h <;> [skip; cases h]
  rename_i hn
  cases h
  simpa [Instr.WellFormed] using (decodeCount_some hn).2

/-- Whatever is read has operands that fit their fields (R101 to R104, R110 to R113). -/
theorem wellFormed_of_decode {bs rest : List Byte} {i : Instr} (h : decode bs = .instr i rest) :
    i.WellFormed = true := by
  unfold decode at h
  split at h
  case h_1 => cases h
  case h_2 c bs =>
    split_ifs at h
    · exact wellFormed_of_decodeOpen h
    · exact wellFormed_of_decodeSetSpeed h
    · exact wellFormed_of_decodeTransact h
    · cases h; rfl
    · cases h; rfl
    · cases h; rfl
    · unfold decodeSetPins at h
      split at h <;> cases h
      rfl
    · exact wellFormed_of_decodeShiftOut h
    · exact wellFormed_of_decodeShiftIn h
    · unfold decodeSetDivisor at h
      split at h <;> cases h
      rfl

theorem commandAt_of_decode {bs rest : List Byte} {c : Instr} (hd : decode bs = .instr c rest)
    (hc : c.isCommand = true) : commandAt bs = some (c, rest) := by
  simp [commandAt, hd, hc]

theorem requestOf_of_decode {frame : List Byte} {i : Instr} (hd : decode frame = .instr i [])
    (hi : i.isRequest = true) : requestOf frame = some i := by
  simp [requestOf, hd, hi]

end Sys2Proof
end

section
/-! PROOFS. What a meaning can do, said once: the entry of a request at `READY`, and the phases of a request in service.
-/

namespace Sys2Proof.Machine

variable {s t : State} {i : Instr} {ix : Interaction}

/-! ## Admission -/

/-- Where an admitted request goes (R39): the first phase of its path, or `DONE` with its completion when it is rejected
before any interaction (R301, R302) or makes none (R260, R261). -/
def entry : Instr → Phase × Option Completion
  | .openBus _ pullUp => if pullUp then (.done, some ⟨.unsupported, .nothing⟩) else (.enter, none)
  | .setSpeed freq =>
    if 100 ≤ freq ∧ freq ≤ 10000000 then (.clockset, none) else (.done, some ⟨.outOfRange, .nothing⟩)
  | .transact _ _ _ => (.build, none)
  | .closeBus => (.reset, none)
  | .clockPin => (.done, some ⟨.ok, .pin Config.sclBit⟩)
  | .dataPin => (.done, some ⟨.ok, .pin Config.sdaOutBit⟩)
  | .setPins _ _ | .shiftOut _ _ | .shiftIn _ | .setDivisor _ => (.ready, none)

/-- At `READY` a request is taken or refused (R250, R306). -/
theorem exec_ready (hi : i.isRequest = true) (hp : s.phase = .ready) :
    exec i s = if admits s.cfg i then .next { s.take i with phase := (entry i).1, cpl := (entry i).2 }
      else .next s.refuse := by
  cases i <;> simp only [Instr.isRequest, Bool.false_eq_true] at hi
  case openBus channel pullUp =>
    rw [exec_openBus_ready hp]
    cases s.cfg <;> cases pullUp <;> rfl
  case setSpeed freq =>
    rw [exec_setSpeed_ready hp, admits_setSpeed, entry]
    by_cases hf : 100 ≤ freq ∧ freq ≤ 10000000 <;> simp only [hf, and_self, if_true, if_false] <;> rfl
  case transact addr w rlen =>
    rw [exec_transact_ready hp]
    by_cases ha : admits s.cfg (.transact addr w rlen) = true
    · rw [if_pos ha, if_pos (admits_transact.mp ha)]; rfl
    · rw [if_neg ha, if_neg (mt admits_transact.mpr ha)]
  case closeBus => rw [exec_closeBus_ready hp]; rfl
  case clockPin => rw [exec_clockPin_ready hp]; rfl
  case dataPin => rw [exec_dataPin_ready hp]; rfl

/-- An admitted request enters on its path, before any batch is built, and with a completion it can return exactly
when it enters at `DONE`. -/
theorem entry_spec (hi : i.isRequest = true) :
    (entry i).1 ∈ pathOf i ∧ (entry i).1.afterBuild = false ∧ ((entry i).1 = .done ↔ (entry i).2.isSome = true) ∧
      ∀ c, (entry i).2 = some c → canReturn i c.status = true := by
  cases i <;> simp only [Instr.isRequest, Bool.false_eq_true] at hi
  case openBus channel pullUp => cases pullUp <;> simp [entry, pathOf, Phase.afterBuild, canReturn]
  case setSpeed freq =>
    by_cases hf : 100 ≤ freq ∧ freq ≤ 10000000 <;> simp [entry, hf, pathOf, Phase.afterBuild, canReturn]
  all_goals simp [entry, pathOf, Phase.afterBuild, canReturn]

/-! ## The phases of a request in service -/

/-- Every path ends at `DONE` (R39). -/
theorem done_mem_pathOf {p : Phase} (h : p ∈ pathOf i) : Phase.done ∈ pathOf i := by
  cases i <;> simp [pathOf] at h ⊢

/-- `READY` is on no path: it is the phase of no request in service (R38). -/
theorem ne_ready_of_mem_pathOf {p : Phase} (h : p ∈ pathOf i) : p ≠ .ready := by
  rintro rfl
  cases i <;> simp [pathOf] at h

theorem isRequest_of_mem_pathOf {p : Phase} (h : p ∈ pathOf i) : i.isRequest = true := by
  cases i <;> simp [pathOf, Instr.isRequest] at h ⊢

/-- The phases of a path: those that make an interaction, `BUILD`, TRANSACT's own two, and `DONE` (R39). -/
theorem onPath_cases (h : s.phase ∈ pathOf i) :
    (∃ ix, s.interaction i = some ix) ∨ (s.phase = .build ∧ ∃ channel pullUp, i = .openBus channel pullUp) ∨
    (∃ addr w rlen, i = .transact addr w rlen ∧ (s.phase = .build ∨ s.phase = .validate ∨ s.phase = .copy)) ∨
    s.phase = .done := by
  by_cases hx : s.phase.interacts = true
  · obtain ⟨ix, _, hix, _⟩ := exec_interacts h hx
    exact .inl ⟨ix, hix⟩
  · cases i <;> cases hp : s.phase <;> simp [pathOf, hp, Phase.interacts] at h hx ⊢

/-- Which interaction a request makes in which phase (R39, R44). -/
inductive State.Makes (s : State) : Instr → Interaction → Prop
  | openEnter {channel pullUp} (hp : s.phase = .enter) : Makes s (.openBus channel pullUp) .adpEnterI2C
  | openWrite {channel pullUp} (hp : s.phase = .write) : Makes s (.openBus channel pullUp) (.txWrite (ser s.batch))
  | openFlush {channel pullUp} (hp : s.phase = .flush1) : Makes s (.openBus channel pullUp) .txFlush
  | setSpeed {freq} (hp : s.phase = .clockset) : Makes s (.setSpeed freq) (.adpClockSet (scaledFreq freq))
  | flush0 {addr w rlen} (hp : s.phase = .flush0) : Makes s (.transact addr w rlen) .txFlush
  | write {addr w rlen} (hp : s.phase = .write) : Makes s (.transact addr w rlen) (.txWrite (ser s.batch))
  | flush1 {addr w rlen} (hp : s.phase = .flush1) : Makes s (.transact addr w rlen) .txFlush
  | read {addr w rlen} (hp : s.phase = .read) : Makes s (.transact addr w rlen) (.txRead s.rcount)
  | close (hp : s.phase = .reset) : Makes s .closeBus .adpResetDefault

theorem makes_of_interaction (hx : s.interaction i = some ix) : s.Makes i ix := by
  cases i <;> cases hp : s.phase <;> simp only [State.interaction, hp, reduceCtorEq, Option.some.injEq] at hx <;>
    subst hx
  · exact .openEnter hp
  · exact .openWrite hp
  · exact .openFlush hp
  · exact .setSpeed hp
  · exact .flush0 hp
  · exact .write hp
  · exact .flush1 hp
  · exact .read hp
  · exact .close hp

/-- An interaction is made only in the phases that make one. -/
theorem interacts_of_interaction (hx : s.interaction i = some ix) : s.phase.interacts = true := by
  cases makes_of_interaction hx <;> simp only [*, Phase.interacts]

/-- Only the interaction of `WRITE` writes, and it writes the whole batch (R231). -/
theorem written_of_interaction (hx : s.interaction i = some ix) :
    written ix = [] ∨ s.phase = .write ∧ written ix = ser s.batch := by
  cases makes_of_interaction hx <;> simp only [*, written, true_or, and_self, or_true]

/-- Issuing the interaction leaves the phase its interaction. -/
theorem interaction_issued (i : Instr) (jx : Interaction) : (s.issued jx).interaction i = s.interaction i := by
  simp only [State.interaction, State.issued_phase, State.issued_batch, State.issued_rcount]

/-- What the success of the interaction of phase `p` makes of the request: its next phase, with the registers that
phase writes. -/
def State.afterSuccess (t : State) (i : Instr) (p : Phase) (bs : List Byte) : State :=
  match p with
  | .enter => { t with phase := .build }
  | .clockset => t.complete .nothing
  | .reset => t.deconfigured.complete .nothing
  | .flush0 => { t with phase := .write }
  | .write => { t with phase := .flush1 }
  | .flush1 =>
    match i with
    | .transact _ _ _ => { t with phase := .read }
    | _ => t.configured.complete .nothing
  | .read => { t with resp := bs, phase := .validate }
  | .ready | .build | .validate | .copy | .done => t

/-- What a failure makes of the request: the error entry (R304, R309), CLOSE with its registers cleared (R256). -/
def State.afterError (t : State) (i : Instr) : State :=
  match i with
  | .closeBus => t.deconfigured.raise .closeBus .transportError
  | _ => t.raise i .transportError

/-- What success makes of a request: a phase, a completion, the masks and the response, and nothing else. -/
theorem afterSuccess_eq (t : State) (i : Instr) (p : Phase) (bs : List Byte) :
    ∃ phase cpl cfg dir val resp, t.afterSuccess i p bs =
      { t with phase := phase, cpl := cpl, cfg := cfg, dir := dir, val := val, resp := resp } := by
  cases p <;> cases i <;> exact ⟨_, _, _, _, _, _, rfl⟩

/-- What a failure makes of a request: the error entry, and the masks. -/
theorem afterError_eq (t : State) (i : Instr) :
    ∃ cfg dir val, t.afterError i = { t.raise i .transportError with cfg := cfg, dir := dir, val := val } := by
  cases i <;> exact ⟨_, _, _, rfl⟩

/-- In a phase that makes an interaction, a request is that interaction. -/
theorem exec_interaction (hx : s.interaction i = some ix) :
    exec i s = interact i ix (fun bs t => t.afterSuccess i s.phase bs) (fun t => t.afterError i) s := by
  cases makes_of_interaction hx with
  | openEnter hp => rw [hp]; exact exec_openBus_enter hp
  | openWrite hp => rw [hp]; exact exec_openBus_write hp
  | openFlush hp => rw [hp]; exact exec_openBus_flush1 hp
  | setSpeed hp => rw [hp]; exact exec_setSpeed_clockset hp
  | flush0 hp => rw [hp]; exact exec_transact_flush0 hp
  | write hp => rw [hp]; exact exec_transact_write hp
  | flush1 hp => rw [hp]; exact exec_transact_flush1 hp
  | read hp => rw [hp]; exact exec_transact_read hp
  | close hp => rw [hp]; exact exec_closeBus_reset hp

/-- What one phase of the request in service `i` can make of `s`. -/
inductive Served (i : Instr) (s : State) : State → Prop
  /-- No answer yet: the phase holds (R351). -/
  | holds {ix : Interaction} (hx : s.interaction i = some ix) : Served i s (s.issued ix)
  /-- The interaction succeeds. -/
  | succeeds {ix : Interaction} {a : Answer} {later : List Answer} {bs : List Byte} (hx : s.interaction i = some ix)
      (ha : s.answers = a :: later) (hr : a.reply ix = some bs) :
      Served i s (({ s.issued ix with answers := later }.succeeded ix).afterSuccess i s.phase bs)
  /-- The interaction fails (R304). -/
  | fails {ix : Interaction} {a : Answer} {later : List Answer} (hx : s.interaction i = some ix)
      (ha : s.answers = a :: later) (hr : a.reply ix = none) :
      Served i s (({ s.issued ix with answers := later }.failed i ix).afterError i)
  /-- OPEN emits its batch (R252). -/
  | buildsOpen {channel pullUp} (hi : i = .openBus channel pullUp) (hp : s.phase = .build) :
      Served i s { s with phase := .write, batch := openBatch openDir }
  /-- TRANSACT builds its batch (R210). -/
  | builds {addr w rlen} (hi : i = .transact addr w rlen) (hp : s.phase = .build) :
      Served i s { build addr w rlen s.dir s with phase := .flush0 }
  /-- An acknowledgment byte is a NAK (R234). -/
  | nak {addr w rlen} (hi : i = .transact addr w rlen) (hp : s.phase = .validate)
      (hn : (ackRegion s.rcount rlen s.resp).any Machine.nak = true) :
      Served i s (s.raise i .nakReceived)
  /-- No acknowledgment byte is (R235). -/
  | acked {addr w rlen} (hi : i = .transact addr w rlen) (hp : s.phase = .validate)
      (hn : (ackRegion s.rcount rlen s.resp).any Machine.nak = false) :
      Served i s { s with phase := .copy }
  /-- The trailing bytes become the result data (R236). -/
  | copies {addr w rlen} (hi : i = .transact addr w rlen) (hp : s.phase = .copy) :
      Served i s (s.complete (.rdata (readData s.rcount s.rdlen s.resp)))
  /-- The completion is delivered (R239). -/
  | released (hp : s.phase = .done) : Served i s s.release

/-- On its path, a request is served. -/
theorem served_of_exec (hp : s.phase ∈ pathOf i) (h : exec i s = .next t) : Served i s t := by
  obtain ⟨ix, hx⟩ | ⟨hb, channel, pullUp, hi⟩ | ⟨addr, w, rlen, hi, hb | hv | hc⟩ | hd := onPath_cases hp
  · rw [exec_interaction hx] at h
    obtain ⟨-, hh⟩ | ⟨a, later, bs, ha, hr, hh⟩ | ⟨a, later, ha, hr, hh⟩ := interact_cases i ix _ _ s <;>
      cases hh.symm.trans h
    · exact .holds hx
    · exact .succeeds hx ha hr
    · exact .fails hx ha hr
  · rw [hi, exec_openBus_build hb] at h
    cases h
    exact .buildsOpen hi hb
  · rw [hi, exec_transact_build hb] at h
    cases h
    exact .builds hi hb
  · rw [hi, exec_transact_validate hv] at h
    cases hn : (ackRegion s.rcount rlen s.resp).any nak <;> rw [hn] at h <;> cases h
    · exact .acked hi hv hn
    · rw [← hi]; exact .nak hi hv hn
  · rw [hi, exec_transact_copy hc] at h
    cases h
    exact .copies hi hc
  · rw [exec_done (isRequest_of_mem_pathOf hp) hd] at h
    cases h
    exact .released hd

/-- Where a next state comes from, the meaning that made it: a request at `READY`, a phase of its path, or a command. -/
theorem exec_cases (h : exec i s = .next t) :
    (i.isRequest = true ∧ s.phase = .ready) ∨ (s.phase ∈ pathOf i ∧ Served i s t) ∨ i.isCommand = true := by
  by_cases hi : i.isRequest = true
  · obtain hp | hp := exec_onPath hi h
    · exact .inl ⟨hi, hp⟩
    · exact .inr (.inl ⟨hp, served_of_exec hp h⟩)
  · exact .inr (.inr (by simp [Instr.isCommand, hi]))

/-! ## The step -/

/-- A command leaves everything but the outbound stream, the adapter and the count of free values (R145). -/
theorem eq_of_exec_commandAt {c : Instr} {rest : List Byte} (hc : commandAt s.outStream = some (c, rest))
    (he : exec c { s with outStream := rest } = .next t) :
    ∃ adapter draws, t = { s with outStream := rest, adapter := adapter, draws := draws } := by
  obtain ⟨adapter, draws, he'⟩ := exec_command (commandAt_isCommand hc).1 { s with outStream := rest }
  cases he'.symm.trans he
  exact ⟨adapter, draws, rfl⟩

/-- A block that waits stays as it is. -/
theorem step_of_waits (h : s.waits) : step s = .next s := by
  obtain ⟨hout, hp, hw⟩ := h
  unfold step
  rw [hout]
  by_cases hl : s.lock = .free
  · simp only [blockStep, hp, hl, if_true, serve, hw hl]
  · simp only [blockStep, hp, hl, if_true, if_false]

end Sys2Proof.Machine
end

section
/-! PROOFS. The invariant is kept by each operation of the model, and so by each phase and by each step. -/

namespace Sys2Proof.Machine

variable {s t : State} {i : Instr} {ix : Interaction}

/-! ## Streams of whole commands -/

/-- The bytes are a run of whole commands the block emits (R114, R117). -/
def CommandStream (bs : List Byte) : Prop := ∃ cs, (∀ c ∈ cs, emittable c = true) ∧ bs = ser cs

theorem CommandStream.nil : CommandStream [] := ⟨[], by simp, rfl⟩

theorem CommandStream.append {as bs : List Byte} (ha : CommandStream as) (hb : CommandStream bs) :
    CommandStream (as ++ bs) := by
  obtain ⟨cs, hcs, rfl⟩ := ha
  obtain ⟨ds, hds, rfl⟩ := hb
  exact ⟨cs ++ ds, fun c hc => (List.mem_append.mp hc).elim (hcs c) (hds c), (ser_append cs ds).symm⟩

/-- The adapter takes one whole command off the stream (R115). -/
theorem CommandStream.commandAt {bs rest : List Byte} {c : Instr} (h : CommandStream bs)
    (hc : commandAt bs = some (c, rest)) : emittable c = true ∧ bs = encode c ++ rest ∧ CommandStream rest := by
  obtain ⟨cs, hcs, rfl⟩ := h
  cases cs with
  | nil => cases hc
  | cons d ds =>
    obtain ⟨hd, hds⟩ := List.forall_mem_cons.mp hcs
    have hdec : decode (ser (d :: ds)) = .instr d (ser ds) :=
      decode_encode_command (emittable_command hd).1 (emittable_command hd).2 _
    cases hdec.symm.trans (commandAt_isCommand hc).2
    exact ⟨hd, rfl, ds, hds, rfl⟩

/-- OPEN's batch is emittable (R117, R252). -/
theorem emittable_openBatch {d : Byte} {c : Instr} (h : c ∈ openBatch d) : emittable c = true := by
  obtain rfl | h := List.mem_cons.mp h
  · rfl
  · exact emittable_hold h

theorem emittable_start {d : Byte} {c : Instr} (h : c ∈ start d) : emittable c = true := by
  obtain h | h := List.mem_append.mp h <;> exact emittable_hold h

theorem emittable_stop {d : Byte} {c : Instr} (h : c ∈ stop d) : emittable c = true := by
  obtain h | h := List.mem_append.mp h
  · obtain h | h := List.mem_append.mp h <;> exact emittable_hold h
  · exact emittable_hold h

theorem emittable_buildWrite {addr : U16} {w : List Byte} {d : Byte} {c : Instr}
    (h : c ∈ (buildWrite addr w d (buildStart d s)).batch) : emittable c = true := by
  obtain h | h := List.mem_append.mp h
  · exact emittable_start h
  · exact emittable_writeBytes h

theorem emittable_buildRead {addr : U16} {rlen : Nat} {d : Byte} {c : Instr}
    (hs : ∀ c ∈ s.batch, emittable c = true) (h : c ∈ (buildRead addr rlen d s).batch) : emittable c = true := by
  simp only [buildRead, State.emitAll_batch, List.mem_append] at h
  obtain ((h | (h | h) | h) | h) | h := h
  · exact hs c h
  · exact emittable_stop h
  · exact emittable_hold h
  · exact emittable_start h
  · exact emittable_writeBytes h
  · exact emittable_readBytes h

/-- TRANSACT's batch is emittable (R117, R210). -/
theorem emittable_build {addr : U16} {w : List Byte} {rlen : Nat} {d : Byte} {c : Instr}
    (h : c ∈ (build addr w rlen d s).batch) : emittable c = true := by
  obtain h | h := List.mem_append.mp h
  · split at h
    · exact emittable_buildRead (fun c hc => emittable_buildWrite hc) h
    · exact emittable_buildWrite h
  · exact emittable_stop h

/-! ## The invariant, operation by operation -/

/-- The transient registers hold the batch of the request `i`, where it has one (R210, R252). -/
def State.holdsBatch (s : State) : Instr → Prop
  | .transact addr w rlen => s.holdsBuilt addr w rlen
  | .openBus _ _ => s.batch = openBatch openDir
  | _ => True

/-- What `build` made depends on the transient registers and the directions alone (R194, R210). -/
theorem holdsBuilt_congr {addr : U16} {w : List Byte} {rlen : Nat} (h : s.holdsBuilt addr w rlen)
    (hd : t.dir = s.dir) (hb : t.batch = s.batch) (hn : t.rcount = s.rcount) (hk : t.rdlen = s.rdlen) :
    t.holdsBuilt addr w rlen := by
  obtain ⟨hbatch, hrcount, hrdlen⟩ := h
  obtain ⟨hb', hn', hk'⟩ := build_batch addr w rlen s.dir s t
  rw [State.holdsBuilt, hd, hb, hn, hk, ← hb', ← hn', ← hk']
  exact ⟨hbatch, hrcount, hrdlen⟩

/-- The clause on a TRANSACT's batch holds of any state that agrees on the registers it speaks of. -/
theorem StateInv.built_congr (h : StateInv s) (hr : t.req = s.req) (hp : t.phase = s.phase) (hd : t.dir = s.dir)
    (hb : t.batch = s.batch) (hn : t.rcount = s.rcount) (hk : t.rdlen = s.rdlen) (addr : U16) (w : List Byte)
    (rlen : Nat) (htr : t.req = some (.transact addr w rlen)) (htp : t.phase.afterBuild = true) :
    t.holdsBuilt addr w rlen :=
  holdsBuilt_congr (h.built addr w rlen (hr ▸ htr) (hp ▸ htp)) hd hb hn hk

theorem StateInv.holdsBatch (h : StateInv s) (hr : s.req = some i) (hb : s.phase.afterBuild = true) :
    s.holdsBatch i := by
  cases i with
  | transact addr w rlen => exact h.built addr w rlen hr hb
  | openBus channel pullUp => exact h.openBuilt channel pullUp hr hb
  | _ => trivial

/-- A request in service is not at `READY`. -/
theorem StateInv.ne_ready (h : StateInv s) (hr : s.req = some i) : s.phase ≠ .ready :=
  fun hp => by cases hr.symm.trans (h.ready_noReq.mp hp)

/-- Outside the phases that make one, no interaction is outstanding. -/
theorem StateInv.not_awaiting (h : StateInv s) (hp : s.phase.interacts = false) : s.awaiting = false := by
  by_contra ha
  rw [h.awaits (Bool.not_eq_false _ ▸ ha)] at hp
  cases hp

/-- The batch of a request that has one is written as a run of whole commands (R114, R117). -/
theorem StateInv.batch_stream (h : StateInv s) (hr : s.req = some i) (hb : s.phase.afterBuild = true) :
    CommandStream (ser s.batch) := by
  have hbatch := h.holdsBatch hr hb
  refine ⟨s.batch, ?_, rfl⟩
  cases i with
  | transact addr w rlen =>
    intro c hc
    rw [hbatch.1] at hc
    exact emittable_build hc
  | openBus channel pullUp =>
    intro c hc
    rw [show s.batch = openBatch openDir from hbatch] at hc
    exact emittable_openBatch hc
  | _ =>
    have hp := (h.onPath _ hr).1
    cases hphase : s.phase <;> simp [pathOf, hphase, Phase.afterBuild] at hp hb

/-- What an interaction writes is a run of whole commands. -/
theorem StateInv.written_stream (h : StateInv s) (hr : s.req = some i) (hx : s.interaction i = some ix) :
    CommandStream (written ix) := by
  obtain hw | ⟨hp, hw⟩ := written_of_interaction hx <;> rw [hw]
  · exact CommandStream.nil
  · exact h.batch_stream hr (by rw [hp]; rfl)

/-- Issuing the interaction of the phase keeps the invariant. -/
theorem StateInv.issued (h : StateInv s) (hx : s.phase.interacts = true) (ix : Interaction) :
    StateInv (s.issued ix) := by
  unfold State.issued
  split
  · exact h
  · obtain ⟨hsorted, hle⟩ := h.contiguous
    refine { h with
      awaits := fun _ => hx, contiguous := ⟨?_, ?_⟩
      built := h.built_congr rfl rfl rfl rfl rfl rfl }
    · exact List.pairwise_append.mpr ⟨hsorted, List.pairwise_singleton _ _, fun a ha b hb => by
        cases List.mem_singleton.mp hb; exact hle a ha⟩
    · intro r hr
      obtain hr | hr := List.mem_append.mp hr
      · exact hle r hr
      · cases List.mem_singleton.mp hr; exact le_rfl

/-- The ports and the adapter are free, but for the outbound stream, which holds whole commands. -/
theorem StateInv.withPorts (h : StateInv s) (answers : List Answer) (adapter : Adapter) (draws : Nat)
    {out : List Byte} (ho : CommandStream out) :
    StateInv { s with answers := answers, adapter := adapter, draws := draws, outStream := out } :=
  { h with
    stream := ho
    built := h.built_congr rfl rfl rfl rfl rfl rfl }

theorem StateInv.notAwaiting (h : StateInv s) : StateInv { s with awaiting := false } :=
  { h with
    awaits := nofun
    built := h.built_congr rfl rfl rfl rfl rfl rfl }

/-- The answer to an interaction keeps the invariant, before the request goes on. -/
theorem StateInv.succeeded (h : StateInv s) (hw : CommandStream (written ix)) : StateInv (s.succeeded ix) :=
  h.notAwaiting.withPorts s.answers _ _ (CommandStream.append h.stream hw)

theorem StateInv.failed (h : StateInv s) (i : Instr) (ix : Interaction) : StateInv (s.failed i ix) :=
  h.notAwaiting.withPorts s.answers _ _ h.stream

/-- A request goes to a phase short of `DONE`, with new transient registers that suit the phase. -/
theorem StateInv.advance (h : StateInv s) (hr : s.req = some i) (hd : s.phase ≠ .done) (ha : s.awaiting = false)
    {p : Phase} {batch : List Instr} {rcount rdlen : Nat} {resp : List Byte} (hp : p ∈ pathOf i) (hpd : p ≠ .done)
    (hb : p.afterBuild = true →
      State.holdsBatch { s with batch := batch, rcount := rcount, rdlen := rdlen } i)
    (hl : p = .validate ∨ p = .copy → resp.length = rcount) :
    StateInv { s with phase := p, batch := batch, rcount := rcount, rdlen := rdlen, resp := resp } := by
  have hready := h.ne_ready hr
  have hpready := ne_ready_of_mem_pathOf hp
  obtain ⟨-, hwf⟩ := h.onPath i hr
  exact { h with
    ready_free := iff_of_false hpready (mt h.ready_free.mpr hready)
    ready_noReq := iff_of_false hpready (mt h.ready_noReq.mpr hready)
    done_cpl := iff_of_false hpd (mt h.done_cpl.mpr hd)
    onPath := fun j hj => by cases hr.symm.trans hj; exact ⟨hp, hwf⟩
    admitted := fun j hj _ => h.admitted j hj hd
    ready_empty := fun hq => absurd hq hpready
    awaits := fun hq => by cases ha.symm.trans hq
    built := fun addr w rlen hj hq => by cases hr.symm.trans hj; exact holdsBuilt_congr (hb hq) rfl rfl rfl rfl
    openBuilt := fun channel pullUp hj hq => by cases hr.symm.trans hj; exact hb hq
    answered := hl }

/-- A request goes to `DONE` with a completion it can return. -/
theorem StateInv.finish (h : StateInv s) (hr : s.req = some i) (ha : s.awaiting = false) {c : Completion}
    (hc : canReturn i c.status = true) (batch : List Instr) (rcount rdlen : Nat) (resp : List Byte) :
    StateInv { s with
      phase := .done, cpl := some c, batch := batch, rcount := rcount, rdlen := rdlen, resp := resp } := by
  have hready := h.ne_ready hr
  obtain ⟨hp, hwf⟩ := h.onPath i hr
  exact { h with
    ready_free := iff_of_false nofun (mt h.ready_free.mpr hready)
    ready_noReq := iff_of_false nofun (mt h.ready_noReq.mpr hready)
    done_cpl := iff_of_true rfl rfl
    onPath := fun j hj => by cases hr.symm.trans hj; exact ⟨done_mem_pathOf hp, hwf⟩
    admitted := fun j _ hd => absurd rfl hd
    returns := fun j d hj hd => by cases hr.symm.trans hj; cases hd; exact hc
    ready_empty := nofun
    awaits := fun hq => by cases ha.symm.trans hq
    built := nofun
    openBuilt := nofun
    answered := nofun }

theorem StateInv.complete (h : StateInv s) (hr : s.req = some i) (ha : s.awaiting = false)
    (hc : canReturn i .ok = true) (data : CplData) : StateInv (s.complete data) :=
  h.finish (c := ⟨.ok, data⟩) hr ha hc _ _ _ _

theorem StateInv.raise (h : StateInv s) (hr : s.req = some i) (ha : s.awaiting = false) {st : Status}
    (hc : canReturn i st = true) : StateInv (s.raise i st) :=
  h.finish (c := ⟨st, errorData i⟩) hr ha hc _ _ _ _

/-- At `DONE` the masks may be set together to what OPEN leaves (R341). -/
theorem StateInv.configuredAtDone (h : StateInv s) (hd : s.phase = .done) : StateInv s.configured :=
  { h with
    admitted := fun _ _ hnd => absurd hd hnd
    configured := fun _ => ⟨rfl, rfl⟩
    notConfigured := nofun
    built := fun _ _ _ _ hb => by rw [show s.configured.phase = .done from hd] at hb; cases hb }

/-- At `DONE` the masks may be cleared together (R342). -/
theorem StateInv.deconfiguredAtDone (h : StateInv s) (hd : s.phase = .done) : StateInv s.deconfigured :=
  { h with
    admitted := fun _ _ hnd => absurd hd hnd
    configured := nofun
    notConfigured := fun _ => ⟨rfl, rfl⟩
    built := fun _ _ _ _ hb => by rw [show s.deconfigured.phase = .done from hd] at hb; cases hb }

/-- The release keeps the invariant (R239). -/
theorem StateInv.release (h : StateInv s) (hd : s.phase = .done) : StateInv s.release :=
  { h with
    ready_free := iff_of_true rfl rfl
    ready_noReq := iff_of_true rfl rfl
    done_cpl := iff_of_false nofun nofun
    onPath := nofun
    admitted := nofun
    returns := nofun
    ready_empty := fun _ => ⟨rfl, rfl, rfl, rfl⟩
    awaits := fun ha => by cases (h.not_awaiting (by rw [hd]; rfl)).symm.trans ha
    built := nofun
    openBuilt := nofun
    answered := nofun
    oneEach := ⟨h.oneEach.1, nofun⟩ }

/-! ## A request in service -/

/-- The success of the phase's interaction keeps the invariant. -/
theorem StateInv.afterSuccess (h : StateInv s) (hr : s.req = some i) (ha : s.awaiting = false)
    (hx : s.interaction i = some ix) {a : Answer} {bs : List Byte} (hbs : a.reply ix = some bs) :
    StateInv (s.afterSuccess i s.phase bs) := by
  have hbatch := h.holdsBatch hr
  cases makes_of_interaction hx with
  | openEnter hp =>
    rw [hp]
    exact h.advance hr (by simp [hp]) ha (by simp [pathOf]) nofun nofun nofun
  | openFlush hp =>
    rw [hp]
    exact (h.complete hr ha rfl _).configuredAtDone rfl
  | setSpeed hp =>
    rw [hp]
    exact h.complete hr ha rfl _
  | openWrite hp | flush0 hp | write hp | flush1 hp =>
    rw [hp] at hbatch ⊢
    exact h.advance hr (by simp [hp]) ha (by simp [pathOf]) nofun (fun _ => hbatch rfl) nofun
  | read hp =>
    rw [hp] at hbatch ⊢
    exact h.advance hr (by simp [hp]) ha (by simp [pathOf]) nofun (fun _ => hbatch rfl)
      (fun _ => (Answer.reply_read.mp hbs).2)
  | close hp =>
    rw [hp]
    exact (h.complete hr ha rfl _).deconfiguredAtDone rfl

/-- The failure of an interaction keeps the invariant. -/
theorem StateInv.afterError (h : StateInv s) (hr : s.req = some i) (ha : s.awaiting = false)
    (hx : s.interaction i = some ix) : StateInv (s.afterError i) := by
  cases makes_of_interaction hx with
  | close hp => exact (h.raise hr ha rfl).deconfiguredAtDone rfl
  | openEnter | openWrite | openFlush | setSpeed | flush0 | write | flush1 | read => exact h.raise hr ha rfl

theorem StateInv.issuedAnswered (h : StateInv s) (hx : s.interaction i = some ix) (later : List Answer) :
    StateInv { s.issued ix with answers := later } :=
  have hissued := h.issued (interacts_of_interaction hx) ix
  hissued.withPorts later _ _ hissued.stream

/-- Every phase of the request in service keeps the invariant. -/
theorem StateInv.served (h : StateInv s) (hr : s.req = some i) (hs : Served i s t) : StateInv t := by
  cases hs with
  | holds hx => exact h.issued (interacts_of_interaction hx) _
  | @succeeds ix a later bs hx _ hbs =>
    rw [← s.issued_phase ix]
    exact ((h.issuedAnswered hx later).succeeded (h.written_stream hr hx)).afterSuccess
      ((s.issued_req ix).trans hr) rfl ((interaction_issued i ix).trans hx) hbs
  | @fails ix a later hx _ _ =>
    exact ((h.issuedAnswered hx later).failed i ix).afterError
      ((s.issued_req ix).trans hr) rfl ((interaction_issued i ix).trans hx)
  | buildsOpen hi hp =>
    subst hi
    exact h.advance hr (by simp [hp]) (h.not_awaiting (by rw [hp]; rfl)) (by simp [pathOf]) nofun (fun _ => rfl) nofun
  | @builds addr w rlen hi hp =>
    subst hi
    rw [build_eq]
    refine h.advance hr (by simp [hp]) (h.not_awaiting (by rw [hp]; rfl)) (by simp [pathOf]) nofun (fun _ => ?_) nofun
    exact build_batch addr w rlen s.dir s _
  | nak hi hp _ =>
    subst hi
    exact h.raise hr (h.not_awaiting (by rw [hp]; rfl)) rfl
  | acked hi hp _ =>
    subst hi
    exact h.advance hr (by simp [hp]) (h.not_awaiting (by rw [hp]; rfl)) (by simp [pathOf]) nofun
      (fun _ => h.holdsBatch hr (by rw [hp]; rfl)) (fun _ => h.answered (.inl hp))
  | copies hi hp =>
    subst hi
    exact h.complete hr (h.not_awaiting (by rw [hp]; rfl)) rfl _
  | released hp => exact h.release hp

/-! ## Admission keeps the invariant -/

/-- A position of a list without repetitions holds what no other position does. -/
theorem notMem_eraseIdx_map {α β : Type} {f : α → β} {l : List α} {k : Nat} {a : α} (hn : (l.map f).Nodup)
    (ha : l[k]? = some a) : f a ∉ (l.eraseIdx k).map f := by
  obtain ⟨hk, rfl⟩ := List.getElem?_eq_some_iff.mp ha
  have hperm := (List.getElem_cons_eraseIdx_perm hk).map f
  exact (List.nodup_cons.mp (hperm.nodup_iff.mpr hn)).1

/-- Presenting a waiting request to a block at `READY` keeps the invariant (R250). -/
theorem StateInv.present (h : StateInv s) (hl : s.lock = .free) (k r : Nat) : StateInv (s.present k r) :=
  { h with
    built := h.built_congr rfl rfl rfl rfl rfl rfl
    oneEach := ⟨h.oneEach.1.sublist ((List.eraseIdx_sublist _ _).map _), fun r hr => by cases hl.symm.trans hr⟩ }

/-- A refusal keeps the invariant (R306). -/
theorem StateInv.refuse (h : StateInv s) : StateInv s.refuse :=
  { h with built := h.built_congr rfl rfl rfl rfl rfl rfl }

/-- An admitted request enters its path with the invariant kept (R250, R306). -/
theorem StateInv.enter (h : StateInv s) (hi : i.isRequest = true) (hw : i.WellFormed = true)
    (ha : admits s.cfg i = true) (hc : s.caller ∉ s.waitq.map Waiting.requester) :
    StateInv { s.take i with phase := (entry i).1, cpl := (entry i).2 } := by
  obtain ⟨hp, hb, hd, hret⟩ := entry_spec hi
  have hready := ne_ready_of_mem_pathOf hp
  obtain ⟨hsorted, hle⟩ := h.contiguous
  exact { h with
    ready_free := iff_of_false hready nofun
    ready_noReq := iff_of_false hready nofun
    done_cpl := hd
    onPath := fun j hj => by cases hj; exact ⟨hp, hw⟩
    admitted := fun j hj _ => by cases hj; exact ha
    returns := fun j c hj => by cases hj; exact hret c
    ready_empty := fun hq => absurd hq hready
    awaits := nofun
    built := fun _ _ _ _ hq => by cases hb.symm.trans hq
    openBuilt := fun _ _ _ hq => by cases hb.symm.trans hq
    answered := by
      rintro (hq | hq) <;> rw [show (entry i).1 = _ from hq] at hb <;> cases hb
    contiguous := ⟨hsorted, fun r hr => Nat.le_succ_of_le (hle r hr)⟩
    oneEach := ⟨h.oneEach.1, fun r hr => by cases hr; exact ⟨rfl, hc⟩⟩ }

/-- A request presented at `READY` keeps the invariant, taken or refused. -/
theorem StateInv.admission (h : StateInv s) (hi : i.isRequest = true) (hw : i.WellFormed = true)
    (hp : s.phase = .ready) (hc : s.caller ∉ s.waitq.map Waiting.requester) (he : exec i s = .next t) :
    StateInv t := by
  rw [exec_ready hi hp] at he
  split at he
  case isTrue ha => cases he; exact h.enter hi hw ha hc
  case isFalse => cases he; exact h.refuse

/-- With a request in service, a step is a command or a phase of that request. -/
theorem StateInv.step_in_service (h : StateInv s) (hp : s.phase ≠ .ready) (hstep : step s = .next t) :
    (∃ c rest adapter draws, commandAt s.outStream = some (c, rest) ∧
      t = { s with outStream := rest, adapter := adapter, draws := draws }) ∨
    ∃ i, s.req = some i ∧ Served i s t := by
  obtain ⟨c, rest, hc, he⟩ | ⟨⟨-, hready, -⟩, -⟩ | ⟨_, -, hready, -⟩ | ⟨_, _, -, hready, -⟩ | ⟨i, -, -, hr, he⟩ :=
    step_cases hstep
  · obtain ⟨adapter, draws, ht⟩ := eq_of_exec_commandAt hc he
    exact .inl ⟨c, rest, adapter, draws, hc, ht⟩
  · exact absurd hready hp
  · exact absurd hready hp
  · exact absurd hready hp
  · exact .inr ⟨i, hr, served_of_exec (h.onPath i hr).1 he⟩

/-- Every step keeps the invariant: each kind of step (`step_cases`) is an operation that does. -/
theorem StateInv.step (h : StateInv s) (hstep : step s = .next t) : StateInv t := by
  obtain ⟨c, rest, hc, he⟩ | ⟨-, rfl⟩ | ⟨w, -, -, hl, -, -, rfl⟩ | ⟨w, i, -, hp, hl, hw, hq, he⟩ | ⟨i, -, hp, hr, he⟩ :=
    step_cases hstep
  · obtain ⟨-, -, hrest⟩ := CommandStream.commandAt h.stream hc
    obtain ⟨adapter, draws, rfl⟩ := eq_of_exec_commandAt hc he
    exact h.withPorts s.answers adapter draws hrest
  · exact h
  · exact (h.present hl _ _).refuse
  · obtain ⟨hi, hdec⟩ := requestOf_isRequest hq
    exact (h.present hl _ _).admission hi (wellFormed_of_decode hdec) hp (notMem_eraseIdx_map h.oneEach.1 hw) he
  · exact h.served hr (served_of_exec (h.onPath i hr).1 he)

/-! ## Creation -/

/-- The state at creation meets the invariant, whatever the channel (R48). -/
theorem stateInv_created (channel : Nat) : StateInv (State.created channel) where
  ready_free := iff_of_true rfl rfl
  ready_noReq := iff_of_true rfl rfl
  done_cpl := iff_of_false nofun nofun
  onPath := nofun
  admitted := nofun
  returns := nofun
  ready_empty := fun _ => ⟨rfl, rfl, rfl, rfl⟩
  configured := nofun
  notConfigured := fun _ => ⟨rfl, rfl⟩
  awaits := nofun
  built := nofun
  openBuilt := nofun
  answered := nofun
  stream := CommandStream.nil
  contiguous := ⟨List.Pairwise.nil, nofun⟩
  oneEach := ⟨List.nodup_nil, nofun⟩

end Sys2Proof.Machine
end

section
/-! PROOFS. What the phases of a request in service do to the masks, the lock, the batch and the outbound stream, and
that no meaning reads `VAL`. -/

namespace Sys2Proof.Machine

variable {s t : State} {i : Instr} {ix : Interaction}

/-! ## Who writes the masks -/

/-- The masks of two states are the same. -/
def State.sameMasks (s t : State) : Prop := t.cfg = s.cfg ∧ t.dir = s.dir ∧ t.val = s.val

/-- At `READY` no meaning writes the masks. -/
theorem sameMasks_of_ready (hi : i.isRequest = true) (hp : s.phase = .ready) (he : exec i s = .next t) :
    s.sameMasks t := by
  rw [exec_ready hi hp] at he
  split at he <;> cases he <;> exact ⟨rfl, rfl, rfl⟩

/-- Issuing an interaction writes no mask. -/
theorem sameMasks_issued (s : State) (ix : Interaction) : s.sameMasks (s.issued ix) :=
  ⟨s.issued_cfg ix, s.issued_dir ix, s.issued_val ix⟩

/-- In service, the masks are written by OPEN at the success of its last flush, and by CLOSE (R32, R36). -/
theorem Served.masks (hs : Served i s t) :
    s.sameMasks t ∨
    (∃ channel pullUp, i = .openBus channel pullUp) ∧ s.phase = .flush1 ∧
      t.cfg = true ∧ t.dir = openDir ∧ t.val = Lv true true ∨
    i = .closeBus ∧ s.phase = .reset ∧ t.cfg = false ∧ t.dir = 0x00#8 ∧ t.val = 0x00#8 := by
  cases hs with
  | holds => exact .inl (sameMasks_issued s _)
  | succeeds hx =>
    have hissued := sameMasks_issued s
    cases makes_of_interaction hx with
    | openFlush hp =>
      rw [hp]
      exact .inr (.inl ⟨⟨_, _, rfl⟩, rfl, rfl, rfl, rfl⟩)
    | close hp =>
      rw [hp]
      exact .inr (.inr ⟨rfl, rfl, rfl, rfl, rfl⟩)
    | openEnter hp | openWrite hp | setSpeed hp | flush0 hp | write hp | flush1 hp | read hp =>
      rw [hp]
      exact .inl (hissued _)
  | fails hx =>
    cases makes_of_interaction hx with
    | close hp => exact .inr (.inr ⟨rfl, hp, rfl, rfl, rfl⟩)
    | openEnter | openWrite | openFlush | setSpeed | flush0 | write | flush1 | read =>
      exact .inl (sameMasks_issued s _)
  | builds =>
    rw [build_eq]
    exact .inl ⟨rfl, rfl, rfl⟩
  | buildsOpen | nak | acked | copies | released => exact .inl ⟨rfl, rfl, rfl⟩

/-! ## The lock -/

/-- In service, no request leaves `WAITQ`, and the holder and the request stay until `DONE` (R40, R79). -/
theorem Served.lock (hs : Served i s t) :
    t.waitq = s.waitq ∧
      (t.lock = s.lock ∧ t.req = s.req ∨ s.phase = .done ∧ t.lock = .free ∧ t.phase = .ready) := by
  cases hs with
  | @holds ix hx => exact ⟨s.issued_waitq ix, .inl ⟨s.issued_lock ix, s.issued_req ix⟩⟩
  | @succeeds ix a later bs hx _ _ =>
    obtain ⟨_, _, _, _, _, _, heq⟩ := afterSuccess_eq ({ s.issued ix with answers := later }.succeeded ix) i s.phase bs
    rw [heq]
    exact ⟨s.issued_waitq ix, .inl ⟨s.issued_lock ix, s.issued_req ix⟩⟩
  | @fails ix a later hx _ _ =>
    obtain ⟨_, _, _, heq⟩ := afterError_eq ({ s.issued ix with answers := later }.failed i ix) i
    rw [heq]
    exact ⟨s.issued_waitq ix, .inl ⟨s.issued_lock ix, s.issued_req ix⟩⟩
  | @builds addr w rlen _ _ =>
    rw [build_eq]
    exact ⟨rfl, .inl ⟨rfl, rfl⟩⟩
  | buildsOpen | nak | acked | copies => exact ⟨rfl, .inl ⟨rfl, rfl⟩⟩
  | released hp => exact ⟨rfl, .inr ⟨hp, rfl, rfl⟩⟩

/-! ## The batch after BUILD -/

/-- After `BUILD` the batch stands or is cleared at the end, and the one write puts it on the outbound stream (R41,
R89). -/
theorem Served.batch (hs : Served i s t) (hb : s.phase.afterBuild = true) :
    (t.batch = s.batch ∨ t.phase = .done ∧ t.batch = []) ∧
      (t.outStream = s.outStream ∨ s.phase = .write ∧ t.outStream = s.outStream ++ ser s.batch) := by
  cases hs with
  | @holds ix hx => exact ⟨.inl (s.issued_batch ix), .inl (s.issued_outStream ix)⟩
  | @succeeds ix a later bs hx _ _ =>
    obtain ⟨_, _, _, _, _, _, heq⟩ := afterSuccess_eq ({ s.issued ix with answers := later }.succeeded ix) i s.phase bs
    rw [heq]
    refine ⟨.inl (s.issued_batch ix), ?_⟩
    obtain hw | ⟨hp, hw⟩ := written_of_interaction hx <;>
      simp only [State.succeeded_outStream, State.issued_outStream, hw, List.append_nil]
    · exact .inl trivial
    · exact .inr ⟨hp, trivial⟩
  | @fails ix a later hx _ _ =>
    obtain ⟨_, _, _, heq⟩ := afterError_eq ({ s.issued ix with answers := later }.failed i ix) i
    rw [heq]
    exact ⟨.inr ⟨rfl, rfl⟩, .inl (s.issued_outStream ix)⟩
  | buildsOpen _ hp => rw [hp] at hb; cases hb
  | builds _ hp => rw [hp] at hb; cases hb
  | released hp => rw [hp] at hb; cases hb
  | nak => exact ⟨.inr ⟨rfl, rfl⟩, .inl rfl⟩
  | acked | copies => exact ⟨.inl rfl, .inl rfl⟩

/-! ## VAL is not read -/

/-- The state with another value of `VAL`. -/
def State.withVal (s : State) (v : Byte) : State := { s with val := v }

theorem issued_withVal (s : State) (ix : Interaction) (v : Byte) :
    (s.withVal v).issued ix = (s.issued ix).withVal v := by
  unfold State.issued State.withVal
  split <;> rfl

theorem afterSuccess_withVal (t : State) (i : Instr) (p : Phase) (bs : List Byte) (v : Byte) :
    ∃ v', (t.withVal v).afterSuccess i p bs = (t.afterSuccess i p bs).withVal v' := by
  cases p <;> cases i <;> exact ⟨_, rfl⟩

theorem afterError_withVal (t : State) (i : Instr) (v : Byte) :
    ∃ v', (t.withVal v).afterError i = (t.afterError i).withVal v' := by
  cases i <;> exact ⟨_, rfl⟩

theorem build_withVal (addr : U16) (w : List Byte) (rlen : Nat) (d : Byte) (s : State) (v : Byte) :
    build addr w rlen d (s.withVal v) = (build addr w rlen d s).withVal v := by
  unfold build
  split <;> rfl

/-- An interaction does not read `VAL`, whatever it answers. -/
theorem exec_interaction_withVal (hx : s.interaction i = some ix) (h : exec i s = .next t) (v : Byte) :
    ∃ v', exec i (s.withVal v) = .next (t.withVal v') := by
  rw [exec_interaction hx] at h
  rw [exec_interaction (s := s.withVal v) hx]
  obtain ⟨ha, hh⟩ | ⟨a, later, bs, ha, hr, hh⟩ | ⟨a, later, ha, hr, hh⟩ := interact_cases i ix _ _ s <;>
    cases hh.symm.trans h
  · exact ⟨v, by rw [interact_hold (s := s.withVal v) ha, issued_withVal]⟩
  · obtain ⟨v', hv'⟩ := afterSuccess_withVal ({ s.issued ix with answers := later }.succeeded ix) i s.phase bs v
    refine ⟨v', ?_⟩
    rw [interact_ok (s := s.withVal v) ha hr, issued_withVal]
    exact congrArg _ hv'
  · obtain ⟨v', hv'⟩ := afterError_withVal ({ s.issued ix with answers := later }.failed i ix) i v
    refine ⟨v', ?_⟩
    rw [interact_err (s := s.withVal v) ha hr, issued_withVal]
    exact congrArg _ hv'

/-- No phase of a path reads `VAL`. -/
theorem exec_onPath_withVal (hp : s.phase ∈ pathOf i) (h : exec i s = .next t) (v : Byte) :
    ∃ v', exec i (s.withVal v) = .next (t.withVal v') := by
  obtain ⟨ix, hx⟩ | ⟨hb, channel, pullUp, rfl⟩ | ⟨addr, w, rlen, rfl, hb | hv | hc⟩ | hd := onPath_cases hp
  · exact exec_interaction_withVal hx h v
  · cases (exec_openBus_build hb).symm.trans h
    exact ⟨v, exec_openBus_build (s := s.withVal v) hb⟩
  · cases (exec_transact_build hb).symm.trans h
    refine ⟨v, (exec_transact_build (s := s.withVal v) hb).trans ?_⟩
    rw [build_withVal]
    rfl
  · have hv' := exec_transact_validate (s := s.withVal v) (addr := addr) (w := w) (rlen := rlen) hv
    rw [exec_transact_validate hv] at h
    by_cases hn : (ackRegion s.rcount rlen s.resp).any nak = true
    · rw [if_pos hn] at h
      cases h
      exact ⟨v, hv'.trans (if_pos hn)⟩
    · rw [if_neg hn] at h
      cases h
      exact ⟨v, hv'.trans (if_neg hn)⟩
  · cases (exec_transact_copy hc).symm.trans h
    exact ⟨v, exec_transact_copy (s := s.withVal v) hc⟩
  · have hi := isRequest_of_mem_pathOf hp
    cases (exec_done hi hd).symm.trans h
    exact ⟨v, exec_done (s := s.withVal v) hi hd⟩

/-- No meaning reads `VAL` (R35, R194). -/
theorem exec_withVal (h : exec i s = .next t) (v : Byte) :
    ∃ v', exec i (s.withVal v) = .next (t.withVal v') := by
  obtain ⟨hi, hp⟩ | ⟨hp, -⟩ | hc := exec_cases h
  · have hv := exec_ready (s := s.withVal v) hi hp
    rw [exec_ready hi hp] at h
    by_cases ha : admits s.cfg i = true
    · rw [if_pos ha] at h
      cases h
      exact ⟨v, hv.trans (if_pos ha)⟩
    · rw [if_neg ha] at h
      cases h
      exact ⟨v, hv.trans (if_neg ha)⟩
  · exact exec_onPath_withVal hp h v
  · cases i <;> simp only [Instr.isCommand, Instr.isRequest, Bool.not_true, Bool.false_eq_true] at hc <;> cases h <;>
      exact ⟨v, rfl⟩

end Sys2Proof.Machine
end

section
/-! PROOFS. The statements about the state (10_state.md). -/

namespace Sys2Proof.Machine

/-- Settles O38, by `StateInv.step`. -/
theorem stepKeepsTheInvariant : Obligations.StepKeepsTheInvariant :=
  fun _ _ h hstep => h.step hstep

/-- Settles O41, from what each kind of step does to the masks. -/
theorem onlyOpenAndCloseWriteTheMasks : Obligations.OnlyOpenAndCloseWriteTheMasks := by
  intro s t hstep
  obtain ⟨c, rest, hc, he⟩ | ⟨-, rfl⟩ | ⟨w, -, -, hl, -, -, rfl⟩ | ⟨w, i, -, hp, -, -, hq, he⟩ | ⟨i, -, hp, hr, he⟩ :=
    step_cases hstep
  · obtain ⟨adapter, draws, rfl⟩ := eq_of_exec_commandAt hc he
    exact .inl ⟨rfl, rfl, rfl⟩
  · exact .inl ⟨rfl, rfl, rfl⟩
  · exact .inl ⟨rfl, rfl, rfl⟩
  · exact .inl (sameMasks_of_ready (s := s.present s.pick w.requester) (requestOf_isRequest hq).1 hp he)
  · rw [hr]
    obtain ⟨-, hready⟩ | ⟨-, hs⟩ | hc := exec_cases he
    · exact absurd hready hp
    · simpa only [Option.some.injEq, State.sameMasks] using hs.masks
    · obtain ⟨adapter, draws, he'⟩ := exec_command hc s
      cases he'.symm.trans he
      exact .inl ⟨rfl, rfl, rfl⟩

/-- Settles O42: the masks stay, or are OPEN's, or CFG is 0 (O41). -/
theorem directionsWhileConfigured : Obligations.DirectionsWhileConfigured := by
  intro s t hstep hs ht
  obtain ⟨hcfg, hdir, -⟩ | ⟨-, -, -, hdir, -⟩ | ⟨-, -, hcfg, -, -⟩ := onlyOpenAndCloseWriteTheMasks s t hstep
  · rw [hdir]; exact hs (hcfg ▸ ht)
  · rw [hdir]; decide
  · cases hcfg.symm.trans ht

/-- Settles O45: with `LOCK` held, a step is a command or a phase of the request in service. -/
theorem lockIsHeldUntilDone : Obligations.LockIsHeldUntilDone := by
  intro s t r h hstep hl
  have hp : s.phase ≠ .ready := fun hp => by cases (h.ready_free.mp hp).symm.trans hl
  obtain ⟨_, _, _, _, -, rfl⟩ | ⟨i, -, hs⟩ := h.step_in_service hp hstep
  · exact ⟨rfl, .inl ⟨hl, rfl⟩⟩
  · rw [← hl]
    exact hs.lock

/-- Settles O46: a command takes itself off the stream; a phase of the request does as `Served.batch` says. -/
theorem batchIsFixedAfterBuild : Obligations.BatchIsFixedAfterBuild := by
  intro s t h hstep hb
  have hp : s.phase ≠ .ready := fun hp => by rw [hp] at hb; cases hb
  obtain ⟨c, rest, _, _, hc, rfl⟩ | ⟨i, -, hs⟩ := h.step_in_service hp hstep
  · obtain ⟨hemit, hout, -⟩ := CommandStream.commandAt h.stream hc
    exact ⟨.inl rfl, .inr (.inr ⟨c, hemit, hout⟩)⟩
  · obtain ⟨hbatch, hout⟩ := hs.batch hb
    exact ⟨hbatch, hout.imp_right .inl⟩

/-- Settles O50: whatever kind of step it is, the state with another `VAL` makes the same one. -/
theorem valIsNeverRead : Obligations.ValIsNeverRead := by
  intro s t v hstep
  obtain ⟨c, rest, hc, he⟩ | ⟨hwait, rfl⟩ | ⟨w, ho, hp, hl, hw, hq, rfl⟩ | ⟨w, i, ho, hp, hl, hw, hq, he⟩ |
    ⟨i, ho, hp, hr, he⟩ := step_cases hstep
  · obtain ⟨v', hv'⟩ := exec_withVal he v
    exact ⟨v', (step_command (s := s.withVal v) hc).trans hv'⟩
  · exact ⟨v, step_of_waits (s := t.withVal v) hwait⟩
  · have hserve := step_serve (s := s.withVal v) ho hp hl hw
    rw [hq] at hserve
    exact ⟨v, hserve⟩
  · have hserve := step_serve (s := s.withVal v) ho hp hl hw
    rw [hq] at hserve
    obtain ⟨v', hv'⟩ := exec_withVal he v
    exact ⟨v', hserve.trans hv'⟩
  · obtain ⟨v', hv'⟩ := exec_withVal he v
    exact ⟨v', (step_service (s := s.withVal v) ho hp hr).trans hv'⟩

/-- Settles O35: what the decoder reads is what the fetch hands to `exec`. -/
theorem stepRunsTheDecodedInstruction : Obligations.StepRunsTheDecodedInstruction := by
  refine ⟨?_, ?_, ?_⟩
  · intro s c rest hd hc
    exact step_command (commandAt_of_decode hd hc)
  · intro s w i ho hp hl hw hd hi
    have hserve := step_serve ho hp hl hw
    rw [requestOf_of_decode hd hi] at hserve
    exact hserve
  · intro s i ho hp hr
    exact step_service ho hp hr

/-- Settles O36, by the fields of `State.reset`. -/
theorem creationState : Obligations.CreationState :=
  ⟨rfl, rfl, rfl, rfl, rfl, rfl, rfl, rfl, rfl, rfl, rfl, rfl⟩

/-- Settles O37; the state at reset is the one created for channel 0. -/
theorem creationMeetsTheInvariant : Obligations.CreationMeetsTheInvariant :=
  ⟨stateInv_created 0, stateInv_created⟩

end Sys2Proof.Machine
end

section
/-! PROOFS. Runs of a whole request, step by step: a waiting request is taken, its interaction succeeds, its completion
is delivered; and which of the waiting requests the lock order chooses. -/

namespace Sys2Proof.Machine

variable {s : State} {i : Instr}

/-! ## The steps of a request -/

/-- An admitted request at the head of the service order is taken in one step, and enters its path (R250, R306). -/
theorem step_takes {w : Waiting} (ho : s.outStream = []) (hp : s.phase = .ready) (hl : s.lock = .free)
    (hw : s.waitq[s.pick]? = some w) (hq : requestOf w.frame = some i) (ha : admits s.cfg i = true) :
    step s = .next { (s.present s.pick w.requester).take i with phase := (entry i).1, cpl := (entry i).2 } := by
  rw [step_serve ho hp hl hw, hq]
  exact (exec_ready (s := s.present s.pick w.requester) (requestOf_isRequest hq).1 hp).trans (if_pos ha)

/-- The success of the present phase's interaction takes one step (R39, R44). -/
theorem step_succeeds {ix : Interaction} {a : Answer} {later : List Answer} {bs : List Byte} (ho : s.outStream = [])
    (hr : s.req = some i) (hx : s.interaction i = some ix) (ha : s.answers = a :: later)
    (hbs : a.reply ix = some bs) :
    step s = .next (({ s.issued ix with answers := later }.succeeded ix).afterSuccess i s.phase bs) := by
  have hp : s.phase ≠ .ready := fun hp => by
    have hint := interacts_of_interaction hx
    rw [hp] at hint
    cases hint
  rw [step_service ho hp hr, exec_interaction hx, interact_ok ha hbs]

/-- The delivery at `DONE` takes one step (R239). -/
theorem step_releases (ho : s.outStream = []) (hp : s.phase = .done) (hr : s.req = some i)
    (hi : i.isRequest = true) : step s = .next s.release := by
  rw [step_service ho (by simp [hp]) hr, exec_done hi hp]

/-! ## The lock order -/

/-- The lock order chooses a request that waits (D20). -/
theorem pick_lt (h : s.waitq ≠ []) : s.pick < s.waitq.length := by
  unfold State.pick
  split
  case h_1 hw => exact absurd hw h
  case h_2 hw => simp [hw]
  case h_3 hw => exact Nat.mod_lt _ (by simp [hw])

/-- A request that waits alone is chosen. -/
theorem pick_of_one {v : Waiting} (h : s.waitq = [v]) : s.pick = 0 := by
  simp [State.pick, h]

/-- Of two requests that wait, one is chosen and the other is left. -/
theorem pick_of_two {v w : Waiting} (h : s.waitq = [v, w]) :
    (s.waitq[s.pick]? = some v ∧ s.waitq.eraseIdx s.pick = [w]) ∨
      (s.waitq[s.pick]? = some w ∧ s.waitq.eraseIdx s.pick = [v]) := by
  have hlt : s.pick < 2 := by simpa [h] using pick_lt (s := s) (by simp [h])
  obtain hk | hk : s.pick = 0 ∨ s.pick = 1 := by omega
  · exact .inl (by simp [h, hk])
  · exact .inr (by simp [h, hk])

/-! ## CLOSE -/

/-- A CLOSE that succeeds, from issue to completion, in three steps: the block is at rest again, and the adapter is
as the default configuration leaves it (R256, R44). -/
theorem close_succeeds {r : Nat} {b : List Byte} {later : List Answer} (hs : s.atRest)
    (hw : s.waitq[s.pick]? = some ⟨r, [0x04#8]⟩) (ha : s.answers = .ok b :: later) :
    ∃ t, Reaches s 3 t ∧ t.atRest ∧ t.waitq = s.waitq.eraseIdx s.pick ∧ t.answers = later ∧ t.ident = s.ident ∧
      t.adapter = adapterAfter s.ident s.adapter .adpResetDefault ∧
      t.delivered = s.delivered ++ [⟨r, ⟨.ok, .nothing⟩⟩] := by
  obtain ⟨hp, hl, ho, -⟩ := hs
  have htake := step_takes ho hp hl hw (i := .closeBus) rfl rfl
  have hreset := step_succeeds (i := .closeBus) (ix := .adpResetDefault)
    (s := { (s.present s.pick r).take .closeBus with phase := .reset, cpl := none }) ho rfl rfl ha rfl
  have hout : s.outStream ++ [] = [] := by simp [ho]
  exact ⟨_, reaches_succ htake (reaches_succ hreset (reaches_succ (step_releases hout rfl rfl rfl) (reaches_zero _))),
    ⟨rfl, rfl, hout, rfl⟩, rfl, rfl, rfl, rfl, rfl⟩

/-- Restoring the default configuration twice is restoring it once (R81). -/
theorem adapterAfter_reset_reset (ident : Nat) (a : Adapter) :
    adapterAfter ident (adapterAfter ident a .adpResetDefault) .adpResetDefault =
      adapterAfter ident a .adpResetDefault := rfl

end Sys2Proof.Machine
end

section
/-! PROOFS. What a step at one place of the list of instances does to that list (20_memory.md R86). -/

namespace Sys2Proof.Machine

variable {sys a : List State} {k : Nat}

/-- A step at place `k` replaces the state there by the next one; past the end of the list, that changes nothing. -/
theorem stepInstance_iff : stepInstance k sys = .next a ↔
    ∃ t, (∀ s, sys[k]? = some s → step s = .next t) ∧ a = sys.set k t := by
  unfold stepInstance
  cases hk : sys[k]? with
  | none =>
    have hset (t : State) : sys.set k t = sys := List.set_eq_of_length_le (List.getElem?_eq_none_iff.mp hk)
    constructor
    · intro h
      cases h
      exact ⟨State.reset, by simp, (hset _).symm⟩
    · rintro ⟨t, -, rfl⟩
      rw [hset]
  | some s => cases hstep : step s <;> simp [hstep, eq_comm]

/-- No step changes any of the identities (R316). -/
theorem map_ident_set {t : State} (h : ∀ s, sys[k]? = some s → step s = .next t) :
    (sys.set k t).map State.ident = sys.map State.ident := by
  by_cases hk : k < sys.length
  · have hident : t.ident = sys[k].ident := step_ident (h _ (List.getElem?_eq_getElem hk))
    have hk' : k < (sys.map State.ident).length := by rwa [List.length_map]
    rw [List.map_set, hident, ← List.getElem_map State.ident (h := hk'), List.set_getElem_self]
  · rw [List.set_eq_of_length_le (Nat.le_of_not_lt hk)]

/-- At creation the identities are the channels' numbers (R252, R262). -/
theorem map_ident_instances (n : Nat) : (instances n).map State.ident = List.range n := by
  rw [instances, List.map_map]
  exact List.map_id _

end Sys2Proof.Machine
end

section
/-! PROOFS. The statements of 20_memory.md. -/

namespace Sys2Proof.Machine

/-- Settles O51: a step replaces the state at its own place alone (`stepInstance_iff`), and replacements at two places
of a list commute. -/
theorem instancesAreIndependent : Obligations.InstancesAreIndependent := by
  refine ⟨fun n => by rw [map_ident_instances]; exact List.nodup_range, ?_⟩
  intro sys a b j k hjk hj hk
  obtain ⟨t, ht, rfl⟩ := stepInstance_iff.mp hj
  obtain ⟨u, hu, rfl⟩ := stepInstance_iff.mp hk
  refine ⟨fun m hm => List.getElem?_set_ne hm.symm, map_ident_set ht, (sys.set j t).set k u, ?_, ?_⟩
  · exact stepInstance_iff.mpr ⟨u, by rwa [List.getElem?_set_ne hjk], rfl⟩
  · exact stepInstance_iff.mpr ⟨t, by rwa [List.getElem?_set_ne hjk.symm], List.set_comm _ _ hjk⟩

/-- Settles O59: each CLOSE runs as `close_succeeds` says, and the default configuration restored again is the same
(`adapterAfter_reset_reset`). -/
theorem secondCloseLeavesTheAdapterAsItWas : Obligations.SecondCloseLeavesTheAdapterAsItWas := by
  intro s r q b0 b1 later hs hwaitq hanswers
  obtain ⟨first, second, hw, hleft, horder⟩ : ∃ first second, s.waitq[s.pick]? = some ⟨first, [0x04#8]⟩ ∧
      s.waitq.eraseIdx s.pick = [⟨second, [0x04#8]⟩] ∧ (first = r ∧ second = q ∨ first = q ∧ second = r) := by
    obtain ⟨hw, hleft⟩ | ⟨hw, hleft⟩ := pick_of_two hwaitq
    · exact ⟨r, q, hw, hleft, .inl ⟨rfl, rfl⟩⟩
    · exact ⟨q, r, hw, hleft, .inr ⟨rfl, rfl⟩⟩
  obtain ⟨t, hst, ht, htw, hta, hti, htadapter, htd⟩ := close_succeeds hs hw hanswers
  rw [hleft] at htw
  have htpick := pick_of_one htw
  obtain ⟨u, htu, hu, huw, hua, -, huadapter, hud⟩ := close_succeeds ht (by rw [htpick, htw]; rfl) hta
  rw [htpick, htw] at huw
  rw [hti, htadapter, adapterAfter_reset_reset, ← htadapter] at huadapter
  rw [htd, List.append_assoc] at hud
  refine ⟨t, u, hst, htu, ht, hu, huw, hua, congrArg Adapter.clock htadapter, congrArg Adapter.pinDir htadapter,
    congrArg Adapter.i2cMode htadapter, huadapter, ?_⟩
  obtain ⟨rfl, rfl⟩ | ⟨rfl, rfl⟩ := horder
  · exact .inl hud
  · exact .inr hud

end Sys2Proof.Machine
end

section
/-! PROOFS. The decoder and the encoder are inverse: every byte form is read back, and whatever is read is exactly a
byte form. -/

namespace Sys2Proof

/-! ## Reading back requests -/

theorem decodeOpen_encode {channel : Nat} (h : channel < 2 ^ 8) (pullUp : Bool) (rest : List Byte) :
    decodeOpen (BitVec.ofNat 8 channel :: (if pullUp then 1#8 else 0#8) :: rest) =
      .instr (.openBus channel pullUp) rest := by
  have hc : (BitVec.ofNat 8 channel).toNat = channel := Nat.mod_eq_of_lt h
  cases pullUp <;> simp only [decodeOpen, hc] <;> rfl

theorem decodeSetSpeed_leBytes {freq : Int} (h1 : -2 ^ 63 ≤ freq) (h2 : freq < 2 ^ 63) (rest : List Byte) :
    decodeSetSpeed (leBytes 8 (field64 freq) ++ rest) = .instr (.setSpeed freq) rest := by
  simp only [decodeSetSpeed, splitBytes_append (leBytes_length _ _), leNat_leBytes (field64_lt freq),
    signed64_field64 h1 h2]

theorem decodeTransact_leBytes (addr : U16) {w : List Byte} {rlen : Nat} (hw : w.length < 2 ^ 32) (hr : rlen < 2 ^ 32)
    (rest : List Byte) :
    decodeTransact (leBytes 2 addr.toNat ++ leBytes 4 w.length ++ w ++ leBytes 4 rlen ++ rest) =
      .instr (.transact addr w rlen) rest := by
  have haddr : leNat (leBytes 2 addr.toNat) = addr.toNat := leNat_leBytes addr.isLt
  have hwlen : leNat (leBytes 4 w.length) = w.length := leNat_leBytes hw
  have hrlen : leNat (leBytes 4 rlen) = rlen := leNat_leBytes hr
  simp only [decodeTransact, List.append_assoc, splitBytes_append (leBytes_length _ _), splitBytes_append hwlen.symm,
    haddr, hrlen, BitVec.ofNat_toNat, BitVec.setWidth_eq]

/-- An instruction with a byte form is read back from it, whatever follows (R101 to R104, R110 to R116). -/
theorem decode_encode {i : Instr} (hw : i.WellFormed = true) (rest : List Byte) :
    decode (encode i ++ rest) = .instr i rest := by
  cases i
  case openBus channel pullUp => exact decodeOpen_encode (of_decide_eq_true hw) pullUp rest
  case setSpeed freq =>
    rw [Instr.WellFormed, Bool.and_eq_true, decide_eq_true_iff, decide_eq_true_iff] at hw
    exact decodeSetSpeed_leBytes hw.1 hw.2 rest
  case transact addr w rlen =>
    rw [Instr.WellFormed, Bool.and_eq_true, decide_eq_true_iff, decide_eq_true_iff] at hw
    exact decodeTransact_leBytes addr hw.1 hw.2 rest
  case closeBus | clockPin | dataPin => rfl
  case setPins | shiftOut | shiftIn | setDivisor => exact decode_encode_command rfl hw rest

/-! ## What is read is its byte form -/

/-- OPEN's flags hold one bit: with bits 7:1 zero they are the byte of `pullUp` (R102). -/
theorem eq_of_reservedFlags_zero {flags : Byte} (h : flags &&& 0xFE#8 = 0#8) :
    flags = if flags.getLsbD 0 then 1#8 else 0#8 := by
  revert flags
  decide

theorem encode_of_decodeOpen {bs rest : List Byte} {i : Instr} (h : decodeOpen bs = .instr i rest) :
    Config.codeOpen :: bs = encode i ++ rest := by
  unfold decodeOpen at h
  split at h
  case h_1 channel flags _ =>
    split_ifs at h with hflags
    cases h
    simp only [encode, BitVec.ofNat_toNat, BitVec.setWidth_eq, ← eq_of_reservedFlags_zero hflags, List.cons_append,
      List.nil_append]
  case h_2 => cases h

/-- A field split off is written back from the number it holds. -/
theorem leBytes_of_splitBytes {n : Nat} {bs xs ys : List Byte} (h : splitBytes n bs = some (xs, ys)) :
    bs = leBytes n (leNat xs) ++ ys := by
  obtain ⟨hbs, rfl⟩ := splitBytes_some h
  rw [leBytes_leNat, hbs]

/-- The number in a field split off fits the field. -/
theorem leNat_lt_of_splitBytes {n : Nat} {bs xs ys : List Byte} (h : splitBytes n bs = some (xs, ys)) :
    leNat xs < 256 ^ n :=
  (splitBytes_some h).2 ▸ leNat_lt xs

theorem encode_of_decodeSetSpeed {bs rest : List Byte} {i : Instr} (h : decodeSetSpeed bs = .instr i rest) :
    Config.codeSetSpeed :: bs = encode i ++ rest := by
  unfold decodeSetSpeed at h
  split at h
  case h_1 hf =>
    cases h
    rw [encode, field64_signed64 (leNat_lt_of_splitBytes hf), List.cons_append, ← leBytes_of_splitBytes hf]
  case h_2 => cases h

theorem encode_of_decodeTransact {bs rest : List Byte} {i : Instr} (h : decodeTransact bs = .instr i rest) :
    Config.codeTransact :: bs = encode i ++ rest := by
  unfold decodeTransact at h
  split at h <;> [cases h; skip]
  rename_i addr _ haddr
  split at h <;> [cases h; skip]
  rename_i wlen _ hwlen
  split at h <;> [cases h; skip]
  rename_i w _ hw
  split at h <;> [cases h; skip]
  rename_i rlen _ hrlen
  cases h
  have hfit : (BitVec.ofNat 16 (leNat addr)).toNat = leNat addr := Nat.mod_eq_of_lt (leNat_lt_of_splitBytes haddr)
  obtain ⟨hw, hlen⟩ := splitBytes_some hw
  simp only [encode, hfit, hlen, List.cons_append, List.append_assoc]
  rw [← leBytes_of_splitBytes hrlen, ← hw, ← leBytes_of_splitBytes hwlen, ← leBytes_of_splitBytes haddr]

theorem encode_of_decodeSetPins {bs rest : List Byte} {i : Instr} (h : decodeSetPins bs = .instr i rest) :
    Config.opSetPins :: bs = encode i ++ rest := by
  unfold decodeSetPins at h
  split at h <;> cases h
  rfl

theorem encode_of_decodeShiftOut {bs rest : List Byte} {i : Instr} (h : decodeShiftOut bs = .instr i rest) :
    Config.opShiftOutBits :: bs = encode i ++ rest := by
  unfold decodeShiftOut at h
  split at h <;> [skip; cases h]
  split at h <;> [skip; cases h]
  rename_i hn
  cases h
  obtain ⟨rfl, -, -⟩ := decodeCount_some hn
  rfl

theorem encode_of_decodeShiftIn {bs rest : List Byte} {i : Instr} (h : decodeShiftIn bs = .instr i rest) :
    Config.opShiftInBits :: bs = encode i ++ rest := by
  unfold decodeShiftIn at h
  split at h <;> [skip; cases h]
  split at h <;> [skip; cases h]
  rename_i hn
  cases h
  obtain ⟨rfl, -, -⟩ := decodeCount_some hn
  rfl

/-- The divisor's bytes taken apart again (R113, R116). -/
theorem bytes_of_divisor (lo hi : Byte) :
    (lo.setWidth 16 ||| (hi.setWidth 16 <<< 8)).setWidth 8 = lo ∧
      ((lo.setWidth 16 ||| (hi.setWidth 16 <<< 8)) >>> 8).setWidth 8 = hi := by
  constructor <;> ext k hk
  · simp
  · have hk16 : k < 16 := by omega
    have hk8 : 8 + k < 16 := by omega
    simp [hk16, hk8, BitVec.getLsbD_eq_getElem hk]

theorem encode_of_decodeSetDivisor {bs rest : List Byte} {i : Instr} (h : decodeSetDivisor bs = .instr i rest) :
    Config.opSetDivisor :: bs = encode i ++ rest := by
  unfold decodeSetDivisor at h
  split at h <;> [skip; cases h]
  rename_i lo hi _
  cases h
  rw [encode, (bytes_of_divisor lo hi).1, (bytes_of_divisor lo hi).2]
  rfl

/-- Whatever is read is exactly its byte form, with the bytes left after it (R101 to R104, R110 to R113). -/
theorem encode_of_decode {bs rest : List Byte} {i : Instr} (h : decode bs = .instr i rest) :
    bs = encode i ++ rest := by
  unfold decode at h
  split at h
  case h_1 => cases h
  case h_2 c bs =>
    split_ifs at h <;> subst c
    · exact encode_of_decodeOpen h
    · exact encode_of_decodeSetSpeed h
    · exact encode_of_decodeTransact h
    · cases h; rfl
    · cases h; rfl
    · cases h; rfl
    · exact encode_of_decodeSetPins h
    · exact encode_of_decodeShiftOut h
    · exact encode_of_decodeShiftIn h
    · exact encode_of_decodeSetDivisor h

/-- A frame that holds a request is that request's byte form and nothing more (R101, R119). -/
theorem encode_of_requestOf {frame : List Byte} {i : Instr} (h : requestOf frame = some i) : frame = encode i :=
  (encode_of_decode (requestOf_isRequest h).2).trans (List.append_nil _)

/-! ## Byte 0 and the flags of a request's byte form -/

/-- Byte 0 of a request's byte form is one of the six codes 1 to 6 (R107). -/
theorem code_of_isRequest {i : Instr} {c : Byte} {bs : List Byte} (hi : i.isRequest = true) (he : c :: bs = encode i) :
    1 ≤ c.toNat ∧ c.toNat ≤ 6 := by
  cases i
  case openBus | setSpeed | transact | closeBus | clockPin | dataPin =>
    cases he
    decide
  case setPins | shiftOut | shiftIn | setDivisor => cases hi

/-- The flags in OPEN's byte form are 0 or 1 (R102). -/
theorem flags_of_encode {i : Instr} {channel flags : Byte} {bs : List Byte}
    (he : 0x01#8 :: channel :: flags :: bs = encode i) : flags.toNat < 2 := by
  cases i
  case openBus channel pullUp =>
    cases he
    cases pullUp <;> decide
  all_goals cases he

/-! ## Serialized batches -/

theorem length_le_length_ser (batch : List Instr) : batch.length ≤ (ser batch).length := by
  induction batch with
  | nil => rfl
  | cons c cs ih =>
    have hc : 0 < (encode c).length := List.length_pos_of_ne_nil (encode_ne_nil c)
    rw [ser_cons, List.length_append, List.length_cons]
    omega

/-- The command at the head is read, then the commands of the rest (R115). -/
theorem commandsWithin_of_commandAt {bs rest : List Byte} {c : Instr} (h : commandAt bs = some (c, rest)) (fuel : Nat) :
    commandsWithin (fuel + 1) bs = (commandsWithin fuel rest).map (c :: ·) := by
  cases bs with
  | nil => cases h
  | cons b bs => simp only [commandsWithin, h]

/-- With fuel for each command, a serialized batch is read back (R114, R115). -/
theorem commandsWithin_ser {batch : List Instr} (hb : ∀ c ∈ batch, c.isCommand = true ∧ c.WellFormed = true)
    {fuel : Nat} (hf : batch.length ≤ fuel) : commandsWithin fuel (ser batch) = some batch := by
  induction batch generalizing fuel with
  | nil => cases fuel <;> rfl
  | cons c cs ih =>
    obtain ⟨⟨hc, hw⟩, hcs⟩ := List.forall_mem_cons.mp hb
    obtain ⟨fuel, rfl⟩ := Nat.exists_eq_add_one_of_ne_zero (Nat.ne_zero_of_lt hf)
    have hread : commandAt (ser (c :: cs)) = some (c, ser cs) :=
      commandAt_of_decode (ser_cons c cs ▸ decode_encode hw (ser cs)) hc
    rw [commandsWithin_of_commandAt hread, ih hcs (Nat.le_of_succ_le_succ hf), Option.map_some]

end Sys2Proof
end

section
/-! PROOFS. The statements about the encoding (30_encoding.md). -/

namespace Sys2Proof.Machine

/-- Settles O1, by `decode_encode`. -/
theorem decodeReadsBackEveryEncoding : Obligations.DecodeReadsBackEveryEncoding :=
  fun _ rest hw => decode_encode hw rest

/-- Settles O2: the operands fit (`wellFormed_of_decode`), and the bytes are the byte form (`encode_of_decode`). -/
theorem decodedBytesAreTheEncoding : Obligations.DecodedBytesAreTheEncoding :=
  fun _ _ _ h => ⟨wellFormed_of_decode h, encode_of_decode h⟩

/-- Settles O3: the stream's length is fuel enough, each command having at least one byte. -/
theorem serializedBatchIsReadBack : Obligations.SerializedBatchIsReadBack :=
  fun batch hb => commandsWithin_ser hb (length_le_length_ser batch)

/-- Settles O19, list by list of the Signal Sequencer. -/
theorem onlyEmittableCommandsAreBuilt : Obligations.OnlyEmittableCommandsAreBuilt :=
  ⟨fun _ _ _ _ _ _ h => emittable_build h, fun _ _ h => emittable_openBatch h⟩

/-- Settles O25: a frame that held a request would be its byte form, whose code is 1 to 6 and whose flags are 0 or 1. -/
theorem reservedFramesHoldNoRequest : Obligations.ReservedFramesHoldNoRequest := by
  refine ⟨fun c bs hc => ?_, fun channel flags bs hflags => ?_⟩ <;>
    refine Option.eq_none_iff_forall_ne_some.mpr fun i h => ?_
  · have hcode := code_of_isRequest (requestOf_isRequest h).1 (encode_of_requestOf h)
    omega
  · exact absurd (flags_of_encode (encode_of_requestOf h)) (Nat.not_lt.mpr hflags)

/-- Settles O4, by running the decoder on each word. -/
theorem wordsOfTheSpecDecode : Obligations.WordsOfTheSpecDecode := by
  refine ⟨?_, ?_, ?_, ?_, ?_, ?_⟩ <;> decide

/-- Settles O5, field by field of each byte form. -/
theorem lengthIsFixedByTheFirstByte : Obligations.LengthIsFixedByTheFirstByte := by
  intro i
  cases i
  case transact addr w rlen =>
    simp only [encode, List.length_cons, List.length_append, leBytes_length]
    omega
  case setSpeed freq => rw [encode, List.length_cons, leBytes_length]
  case openBus | closeBus | clockPin | dataPin | setPins | shiftOut | shiftIn | setDivisor => rfl

end Sys2Proof.Machine
end

section
/-! PROOFS. What the adapter holds after a command, said once, and the response bytes that a run of commands adds to the
inbound stream (40_command_batch.md). -/

namespace Sys2Proof.Machine

/-! ## The bits of a shift -/

@[simp] theorem sampledBits_length (ident draw n : Nat) : (sampledBits ident draw n).length = n := by
  simp [sampledBits]

/-- The last bit shifted out is `data[8−n]` (R143). -/
theorem shiftedOutBits_getLast? {n : Nat} (hn : 1 ≤ n) (data : Byte) :
    (shiftedOutBits n data).getLast? = some (data.getLsbD (8 - n)) := by
  obtain ⟨m, rfl⟩ := Nat.exists_eq_add_of_le' hn
  rw [shiftedOutBits, List.range_succ, List.map_append, List.map_singleton, List.getLast?_concat,
    Nat.add_sub_add_right 7 1 m]

/-! ## The effect of each command -/

theorem exec_setPins (value dir : Byte) (s : State) : exec (.setPins value dir) s = .next { s with
    adapter := { s.adapter with
      pinDir := dir, pinOut := value, trace := s.adapter.trace ++ [.slice value dir] } } := rfl

theorem exec_setDivisor (div : U16) (s : State) : exec (.setDivisor div) s = .next { s with
    adapter := { s.adapter with clock := .divisor div } } := rfl

theorem exec_shiftOut (n : Nat) (data : Byte) (s : State) : exec (.shiftOut n data) s = .next { s with
    adapter := { s.adapter with
      pinOut := ((shiftedOutBits n data).foldl Adapter.clockOut s.adapter).pinOut
      trace := s.adapter.trace ++ (shiftedOutBits n data).map .clockOut } } := by
  obtain ⟨levels, h⟩ := foldl_clockOut (shiftedOutBits n data) s.adapter
  rw [exec, execShiftOut, h]

theorem exec_shiftIn (n : Nat) (s : State) : exec (.shiftIn n) s = .next { s with
    draws := s.draws + 1
    adapter := { s.adapter with
      pinOut := ((sampledBits s.ident s.draws n).foldl Adapter.clockIn s.adapter).pinOut
      inStream := s.adapter.inStream ++
        [responseByte (Config.responseFill s.ident s.draws) (sampledBits s.ident s.draws n)]
      trace := s.adapter.trace ++ (sampledBits s.ident s.draws n).map .clockIn } } := by
  obtain ⟨levels, h⟩ := foldl_clockIn (sampledBits s.ident s.draws n) s.adapter
  simp only [exec, execShiftIn, h]

/-! ## Response bytes -/

theorem nShiftIn_cons (c : Instr) (cs : List Instr) : nShiftIn (c :: cs) = nShiftIn [c] + nShiftIn cs :=
  nShiftIn_append [c] cs

/-- A command adds to the inbound stream one response byte if it is a shift-in, and none otherwise, and writes nothing
but the adapter and the count of free values (R145). -/
theorem exec_command_responses {c : Instr} (hc : c.isCommand = true) (s : State) :
    ∃ (adapter : Adapter) (draws : Nat) (responses : List Byte),
      exec c s = .next { s with adapter := adapter, draws := draws } ∧
      responses.length = nShiftIn [c] ∧ adapter.inStream = s.adapter.inStream ++ responses := by
  cases c
  case setPins value dir => exact ⟨_, _, [], exec_setPins value dir s, rfl, (List.append_nil _).symm⟩
  case shiftOut n data => exact ⟨_, _, [], exec_shiftOut n data s, rfl, (List.append_nil _).symm⟩
  case shiftIn n => exact ⟨_, _, [_], exec_shiftIn n s, rfl, rfl⟩
  case setDivisor div => exact ⟨_, _, [], exec_setDivisor div s, rfl, (List.append_nil _).symm⟩
  case openBus | setSpeed | transact | closeBus | clockPin | dataPin => cases hc

/-- The command at the head of a serialized batch is executed in one step, which takes its bytes off the stream and adds
its response bytes (R85, R115, R145). -/
theorem step_ser_cons {s : State} {c : Instr} {cs : List Instr} (hc : c.isCommand = true) (hw : c.WellFormed = true)
    (ho : s.outStream = ser (c :: cs)) :
    ∃ (adapter : Adapter) (draws : Nat) (responses : List Byte),
      step s = .next { s with outStream := ser cs, adapter := adapter, draws := draws } ∧
      responses.length = nShiftIn [c] ∧ adapter.inStream = s.adapter.inStream ++ responses := by
  have hread : commandAt s.outStream = some (c, ser cs) := by
    rw [ho, ser_cons]
    exact commandAt_of_decode (decode_encode_command hc hw _) hc
  rw [step_command hread]
  exact exec_command_responses hc { s with outStream := ser cs }

end Sys2Proof.Machine
end

section
/-! PROOFS. The statements about the commands, as the adapter executes them (40_command_batch.md). -/

namespace Sys2Proof.Machine

/-- Settles O21: the levels are those the bits shifted out leave, the last of them on the data output pin. -/
theorem shiftOutSendsTheTopBitsFirst : Obligations.ShiftOutSendsTheTopBitsFirst := by
  intro n data s hn _
  refine ⟨_, _, exec_shiftOut n data s, ?_, clockOut_last _ s.adapter (shiftedOutBits_getLast? hn data),
    fun p hp => clockOut_levels _ s.adapter hp⟩
  rw [shiftedOutBits, List.map_map]
  rfl

/-- Settles O22: the response byte is the one made of the sampled bits. -/
theorem shiftInAppendsOneResponseByte : Obligations.ShiftInAppendsOneResponseByte := by
  intro n s _ hn
  have hlen : (sampledBits s.ident s.draws n).length = n := sampledBits_length _ _ n
  refine ⟨_, _, _, _, exec_shiftIn n s, hlen, rfl, fun k b hk => ?_, fun p hp => clockIn_levels _ s.adapter hp⟩
  have hbit := responseByte_bit (Config.responseFill s.ident s.draws) (hlen.trans_le hn) hk
  rwa [hlen] at hbit

/-- Settles O23, by induction on the batch: the first command's response bytes join the stream in its own step
(`step_ser_cons`), those of the rest in the run that follows. -/
theorem oneResponseByteForEachShiftIn : Obligations.OneResponseByteForEachShiftIn := by
  intro s batch hb ho
  induction batch generalizing s with
  | nil =>
    refine ⟨[], rfl, fun done left h => ?_⟩
    obtain ⟨rfl, rfl⟩ := List.append_eq_nil_iff.mp h.symm
    exact ⟨s, reaches_zero s, ho, (List.append_nil _).symm, rfl⟩
  | cons c cs ih =>
    obtain ⟨⟨hc, hw⟩, hcs⟩ := List.forall_mem_cons.mp hb
    obtain ⟨adapter, draws, first, hstep, hfirst, hin⟩ := step_ser_cons hc hw ho
    obtain ⟨later, hlater, hrun⟩ := ih { s with outStream := ser cs, adapter := adapter, draws := draws } hcs rfl
    refine ⟨first ++ later, by rw [List.length_append, hfirst, hlater, ← nShiftIn_cons], fun done left h => ?_⟩
    cases done with
    | nil => exact ⟨s, reaches_zero s, ho.trans (congrArg ser h), (List.append_nil _).symm, rfl⟩
    | cons d done =>
      obtain ⟨rfl, hsplit⟩ := List.cons_eq_cons.mp h
      obtain ⟨t, hreach, hout, hresp, hframe⟩ := hrun done left hsplit
      refine ⟨t, reaches_succ hstep hreach, hout, ?_, hframe⟩
      rw [hresp, hin, nShiftIn_cons, ← hfirst, List.take_length_add_append, List.append_assoc]

/-- Settles O20, by the effect of each command (`exec_setPins`, `exec_setDivisor`). -/
theorem setPinsAndSetDivisorEffects : Obligations.SetPinsAndSetDivisorEffects :=
  ⟨exec_setPins, exec_setDivisor⟩

end Sys2Proof.Machine
end

section
/-! PROOFS. The arithmetic of the Clock Translator, and which steps write the adapter's clock setting
(41_clock_translator.md). -/

namespace Sys2Proof.Machine

variable {s t : State} {i : Instr} {ix : Interaction}

/-! ## The forwarded value -/

/-- On the frequencies SET_SPEED accepts, truncation toward zero is the floor (R13, R162). -/
theorem scaledFreq_eq_ediv {freq : Int} (h : 0 ≤ freq) : scaledFreq freq = 2 * freq / 3 := by
  rw [scaledFreq, Int.mul_comm, Int.tdiv_eq_ediv_of_nonneg (by omega)]

/-! ## An interaction issued, as one update -/

/-- An interaction issued is outstanding and stands in the history, and nothing else changes (R351). -/
theorem State.issued_eq (s : State) (ix : Interaction) :
    s.issued ix = { s with awaiting := true, history := s.historyWith ix } := by
  unfold State.issued State.historyWith
  split
  case isTrue ha => rw [← ha]
  case isFalse => rfl

/-! ## Commands and the clock -/

/-- Of the commands, SET_DIVISOR alone writes the clock setting (R142 to R146). -/
theorem clock_of_exec_command (hc : i.isCommand = true) (he : exec i s = .next t) :
    t.adapter.clock = s.adapter.clock ∨ ∃ div, i = .setDivisor div ∧ t.adapter.clock = .divisor div := by
  cases i
  case setPins value dir => cases (exec_setPins value dir s).symm.trans he; exact .inl rfl
  case shiftOut n data => cases (exec_shiftOut n data s).symm.trans he; exact .inl rfl
  case shiftIn n => cases (exec_shiftIn n s).symm.trans he; exact .inl rfl
  case setDivisor div => cases (exec_setDivisor div s).symm.trans he; exact .inr ⟨div, rfl, rfl⟩
  case openBus | setSpeed | transact | closeBus | clockPin | dataPin => cases hc

/-! ## Requests and the clock -/

/-- At `READY` no meaning touches the adapter. -/
theorem adapter_of_ready (hi : i.isRequest = true) (hp : s.phase = .ready) (he : exec i s = .next t) :
    t.adapter = s.adapter := by
  rw [exec_ready hi hp] at he
  split at he <;> cases he <;> rfl

@[simp] theorem afterSuccess_adapter (t : State) (i : Instr) (p : Phase) (bs : List Byte) :
    (t.afterSuccess i p bs).adapter = t.adapter := by
  obtain ⟨_, _, _, _, _, _, h⟩ := afterSuccess_eq t i p bs
  rw [h]

@[simp] theorem afterError_adapter (t : State) (i : Instr) : (t.afterError i).adapter = t.adapter := by
  obtain ⟨_, _, _, h⟩ := afterError_eq t i
  rw [h, State.raise_adapter]

/-- The request `i` is in a phase whose interaction may replace the clock setting: SET_SPEED's clock-set, any of OPEN's,
and CLOSE's reset (R164, R255). -/
def State.replacesClock (s : State) (i : Instr) : Prop :=
  (∃ freq, i = .setSpeed freq) ∧ s.phase = .clockset ∨
  (∃ channel pullUp, i = .openBus channel pullUp) ∧ s.phase.interacts = true ∨
  i = .closeBus ∧ s.phase = .reset

/-- An interaction that may not replace the clock setting is one of TRANSACT's: a flush, a write or a read. -/
theorem replacesClock_or_transact (hx : s.interaction i = some ix) :
    s.replacesClock i ∨ (∃ addr w rlen, i = .transact addr w rlen) ∧
      (ix = .txFlush ∨ (∃ bytes, ix = .txWrite bytes) ∨ ∃ n, ix = .txRead n) := by
  have hint := interacts_of_interaction hx
  cases makes_of_interaction hx with
  | openEnter | openWrite | openFlush => exact .inl (.inr (.inl ⟨⟨_, _, rfl⟩, hint⟩))
  | setSpeed hp => exact .inl (.inl ⟨⟨_, rfl⟩, hp⟩)
  | close hp => exact .inl (.inr (.inr ⟨rfl, hp⟩))
  | flush0 | flush1 => exact .inr ⟨⟨_, _, _, rfl⟩, .inl rfl⟩
  | write => exact .inr ⟨⟨_, _, _, rfl⟩, .inr (.inl ⟨_, rfl⟩)⟩
  | read => exact .inr ⟨⟨_, _, _, rfl⟩, .inr (.inr ⟨_, rfl⟩)⟩

/-- In service, only the phases of `State.replacesClock` write the clock setting: TRANSACT's interactions leave it
alone, whatever succeeds or fails. -/
theorem Served.clock (hs : Served i s t) : t.adapter.clock = s.adapter.clock ∨ s.replacesClock i := by
  cases hs with
  | @holds ix hx => exact .inl (by rw [State.issued_adapter])
  | @succeeds ix a later bs hx _ _ =>
    obtain hown | ⟨-, rfl | ⟨_, rfl⟩ | ⟨_, rfl⟩⟩ := replacesClock_or_transact hx
    · exact .inr hown
    all_goals exact .inl (by simp [adapterAfter])
  | @fails ix a later hx _ _ =>
    obtain hown | ⟨⟨_, _, _, rfl⟩, rfl | ⟨_, rfl⟩ | ⟨_, rfl⟩⟩ := replacesClock_or_transact hx
    · exact .inr hown
    all_goals exact .inl (by simp)
  | builds =>
    rw [build_eq]
    exact .inl rfl
  | buildsOpen | nak | acked | copies | released => exact .inl rfl

/-! ## TRANSACT's batch holds no SET_DIVISOR -/

variable {div : U16} {d : Byte}

@[simp] theorem setDivisor_notMem_hold (v : Byte) : .setDivisor div ∉ hold v d := by
  simp [hold]

@[simp] theorem setDivisor_notMem_idle : .setDivisor div ∉ idle d := setDivisor_notMem_hold _

@[simp] theorem setDivisor_notMem_start : .setDivisor div ∉ start d := by
  simp [start]

@[simp] theorem setDivisor_notMem_stop : .setDivisor div ∉ stop d := by
  simp [stop]

@[simp] theorem setDivisor_notMem_writeBytes (bs : List Byte) : .setDivisor div ∉ writeBytes bs d := by
  simp [writeBytes, writeByte]

@[simp] theorem setDivisor_notMem_readBytes (n : Nat) : .setDivisor div ∉ readBytes n d := by
  simp [readBytes, readByte]

/-- The automatic divisor belongs to OPEN: TRANSACT's batch, part by part, sets none (R166, R210). -/
theorem setDivisor_notMem_build (addr : U16) (w : List Byte) (rlen : Nat) :
    .setDivisor div ∉ (build addr w rlen d s).batch := by
  unfold build
  split <;> simp [buildStart, buildWrite, buildRead]

end Sys2Proof.Machine
end

section
/-! PROOFS. The statements about the Clock Translator (41_clock_translator.md). -/

namespace Sys2Proof.Machine

/-- Settles O60: of the kinds of step, a command writes the clock setting only as SET_DIVISOR does
(`clock_of_exec_command`), and a request only in the phases of `State.replacesClock` (`Served.clock`). -/
theorem clockSettingLivesUntilReplaced : Obligations.ClockSettingLivesUntilReplaced := by
  refine ⟨fun s t h hstep => ?_, fun addr w rlen _ _ _ => setDivisor_notMem_build addr w rlen⟩
  obtain ⟨c, rest, hc, he⟩ | ⟨-, rfl⟩ | ⟨w, -, -, -, -, -, rfl⟩ | ⟨w, i, -, hp, -, -, hq, he⟩ | ⟨i, -, -, hr, he⟩ :=
    step_cases hstep
  · obtain hclock | ⟨div, rfl, hclock⟩ := clock_of_exec_command (commandAt_isCommand hc).1 he
    · exact .inl hclock
    · exact .inr (.inl ⟨div, rest, hc, hclock⟩)
  · exact .inl rfl
  · exact .inl rfl
  · have hadapter := adapter_of_ready (s := s.present s.pick w.requester) (requestOf_isRequest hq).1 hp he
    exact .inl (congrArg Adapter.clock hadapter)
  · rw [hr]
    simpa only [Option.some.injEq] using (served_of_exec (h.onPath i hr).1 he).clock.imp_right .inr

/-- Settles O7: the clock-set interaction succeeds (`interact_ok`), and the request completes. -/
theorem setSpeedForwardsTheScaledValue : Obligations.SetSpeedForwardsTheScaledValue := by
  intro s freq bs later hp ha
  rw [exec_setSpeed_clockset hp, interact_ok ha rfl, State.issued_eq]
  simp only [State.succeeded, written, List.append_nil]
  rfl

/-- Settles O6: at `READY` the range decides where the request enters (`entry`); in the clock-set phase the answer
decides how it ends. -/
theorem setSpeedSucceedsExactlyInRange : Obligations.SetSpeedSucceedsExactlyInRange := by
  refine ⟨fun s freq hp hcfg => ?_, fun s freq later hp => ⟨fun bs ha => ?_, fun ha => ?_⟩⟩
  · refine ⟨_, (exec_ready rfl hp).trans (if_pos hcfg), fun hin => ?_, fun hout => ?_⟩
    · simp [entry, hin]
    · simp [entry, show ¬(100 ≤ freq ∧ freq ≤ 10000000) by omega]
  · exact ⟨_, setSpeedForwardsTheScaledValue s freq bs later hp ha, rfl, rfl⟩
  · exact ⟨_, (exec_setSpeed_clockset hp).trans (interact_err ha rfl), rfl, rfl⟩

/-- Settles O8, for the floor of two thirds (`scaledFreq_eq_ediv`). -/
theorem scaledFrequencyIsTwoThirds : Obligations.ScaledFrequencyIsTwoThirds := by
  intro freq hmin hmax
  rw [scaledFreq_eq_ediv (by omega)]
  omega

/-- Settles O9, by evaluating the formula at each target. -/
theorem automaticDivisorIsFortyNine : Obligations.AutomaticDivisorIsFortyNine := by
  refine ⟨?_, ?_, ?_, ?_, ?_, ?_⟩ <;> decide

end Sys2Proof.Machine
end

section
/-! PROOFS. The operand forms of the Signal Sequencer: release directions, levels, the address byte
(42_signal_sequencer.md R180, R187, R191). -/

namespace Sys2Proof.Machine

/-- Releasing is clearing SDA_OUT's pin, so the other directions stay (R187). -/
theorem releaseDir_bit (d : Byte) (p : Nat) : (releaseDir d).getLsbD p = if p = 1 then false else d.getLsbD p :=
  setPin_bit d (by decide) p false

@[simp] theorem Lv_scl (scl sda : Bool) : (Lv scl sda).getLsbD Config.sclBit = scl := by
  cases scl <;> cases sda <;> decide

@[simp] theorem Lv_sdaOut (scl sda : Bool) : (Lv scl sda).getLsbD Config.sdaOutBit = sda := by
  cases scl <;> cases sda <;> decide

/-- Shifting and joining in 16 bits or in 8 makes no difference to the low byte (R191). -/
theorem addrByte_eq_setWidth (addr : U16) (rd : Bool) :
    addrByte addr rd = (((addr &&& 0x7F#16) <<< 1) ||| (if rd then 1#16 else 0#16)).setWidth 8 := by
  rw [BitVec.setWidth_or, BitVec.setWidth_shiftLeft_of_le (by decide)]
  cases rd <;> rfl

/-- The direction bit fills the place the shift left free, so the address byte is a sum (R191). -/
theorem addrByte_toNat {addr : U16} (h : addr.toNat ≤ 0x7F) (rd : Bool) :
    (addrByte addr rd).toNat = 2 * addr.toNat + rd.toNat := by
  have hmask : addr.toNat &&& 127 = addr.toNat := Nat.and_two_pow_sub_one_of_lt_two_pow (n := 7) (by omega)
  have hbit : (if rd then 1#16 else 0#16).toNat = rd.toNat := by cases rd <;> rfl
  have hjoin : addr.toNat <<< 1 ||| rd.toNat = 2 * addr.toNat + rd.toNat := by
    rw [← Nat.shiftLeft_add_eq_or_of_lt (Bool.toNat_lt rd), Nat.shiftLeft_eq, Nat.mul_comm]
  have hle : rd.toNat ≤ 1 := Bool.toNat_le rd
  have hshift : addr.toNat <<< 1 % 2 ^ 16 = addr.toNat <<< 1 := Nat.mod_eq_of_lt (by omega)
  calc (addrByte addr rd).toNat
      = ((addr.toNat &&& 127) <<< 1 % 2 ^ 16 ||| rd.toNat) % 2 ^ 8 := by
        rw [addrByte_eq_setWidth, BitVec.toNat_setWidth, BitVec.toNat_or, BitVec.toNat_shiftLeft, BitVec.toNat_and,
          hbit]
        rfl
    _ = (2 * addr.toNat + rd.toNat) % 2 ^ 8 := by rw [hmask, hshift, hjoin]
    _ = 2 * addr.toNat + rd.toNat := Nat.mod_eq_of_lt (by omega)

/-! ## Requested levels -/

/-- A pin driven by `d` is asked for the level that the value holds (R147). -/
theorem pinLevel_driven {d : Byte} {p : Nat} (h : d.getLsbD p = true) (v : Byte) :
    pinLevel v d p = some (v.getLsbD p) :=
  if_pos h

@[simp] theorem requestedLevels_append (cs ds : List Instr) :
    requestedLevels (cs ++ ds) = requestedLevels cs ++ requestedLevels ds :=
  List.filterMap_append

end Sys2Proof.Machine
end

section
/-! PROOFS. The shape of the Signal Sequencer's command lists: held levels, and byte operations of a fixed number of
commands each (42_signal_sequencer.md R181 to R190). -/

namespace Sys2Proof.Machine

/-! ## Held levels -/

@[simp] theorem length_hold (v d : Byte) : (hold v d).length = 4 := rfl

@[simp] theorem length_ser_hold (v d : Byte) : (ser (hold v d)).length = 12 := rfl

@[simp] theorem nShiftIn_hold (v d : Byte) : nShiftIn (hold v d) = 0 := rfl

/-- Held levels ask for the same levels of SCL and SDA four times, when `d` drives both lines (R147, R181). -/
theorem requestedLevels_hold {d : Byte} (hscl : d.getLsbD 0 = true) (hsda : d.getLsbD 1 = true) (scl sda : Bool) :
    requestedLevels (hold (Lv scl sda) d) = List.replicate 4 (some scl, some sda) := by
  have hlevels : requestedLevels (hold (Lv scl sda) d) =
      List.replicate 4 (pinLevel (Lv scl sda) d Config.sclBit, pinLevel (Lv scl sda) d Config.sdaOutBit) := rfl
  rw [hlevels, pinLevel_driven (p := Config.sclBit) hscl, pinLevel_driven (p := Config.sdaOutBit) hsda, Lv_scl,
    Lv_sdaOut]

/-! ## Lists made of blocks of one length -/

section
variable {α β : Type} {f : α → List β} {m : Nat}

/-- Blocks of `m` elements each make a list of `m` for each block. -/
theorem length_flatMap_blocks (hf : ∀ a, (f a).length = m) (l : List α) : (l.flatMap f).length = m * l.length := by
  simp [List.length_flatMap, hf, Nat.mul_comm]

/-- Element `j` of block `k` stands at `m * k + j`. -/
theorem getElem?_flatMap_blocks (hf : ∀ a, (f a).length = m) {l : List α} {k : Nat} {a : α} (ha : l[k]? = some a)
    {j : Nat} (hj : j < m) : (l.flatMap f)[m * k + j]? = (f a)[j]? := by
  induction l generalizing k with
  | nil => cases ha
  | cons x xs ih =>
    rw [List.flatMap_cons]
    cases k with
    | zero =>
      cases ha
      rw [Nat.mul_zero, Nat.zero_add, List.getElem?_append_left (by rwa [hf])]
    | succ k =>
      rw [List.getElem?_append_right (by rw [hf, Nat.mul_succ]; omega), hf,
        show m * (k + 1) + j - m = m * k + j by rw [Nat.mul_succ]; omega]
      exact ih ha

end

/-- The bytes of a list of blocks are the bytes of each block, in order. -/
theorem ser_flatMap {α : Type} (f : α → List Instr) (l : List α) :
    ser (l.flatMap f) = l.flatMap fun a => ser (f a) :=
  List.flatMap_assoc

/-! ## Written bytes -/

theorem length_writeByte (b d : Byte) : (writeByte b d).length = 3 := rfl

theorem length_ser_writeByte (b d : Byte) : (ser (writeByte b d)).length = 8 := rfl

theorem length_writeBytes (bs : List Byte) (d : Byte) : (writeBytes bs d).length = 3 * bs.length :=
  length_flatMap_blocks (length_writeByte · d) bs

theorem length_ser_writeBytes (bs : List Byte) (d : Byte) : (ser (writeBytes bs d)).length = 8 * bs.length := by
  rw [writeBytes, ser_flatMap, length_flatMap_blocks (length_ser_writeByte · d)]

/-- Byte `k` is written by commands `3 * k` to `3 * k + 2` (R188). -/
theorem writeBytes_getElem? {bs : List Byte} {k : Nat} {b : Byte} (hb : bs[k]? = some b) (d : Byte) {j : Nat}
    (hj : j < 3) : (writeBytes bs d)[3 * k + j]? = (writeByte b d)[j]? :=
  getElem?_flatMap_blocks (length_writeByte · d) hb hj

/-! ## Read bytes -/

theorem length_readByte (last : Bool) (d : Byte) : (readByte last d).length = 2 := rfl

theorem length_ser_readByte (last : Bool) (d : Byte) : (ser (readByte last d)).length = 5 := rfl

theorem length_readBytes (n : Nat) (d : Byte) : (readBytes n d).length = 2 * n := by
  rw [readBytes, length_flatMap_blocks (fun _ => length_readByte _ d), List.length_range]

theorem length_ser_readBytes (n : Nat) (d : Byte) : (ser (readBytes n d)).length = 5 * n := by
  rw [readBytes, ser_flatMap, length_flatMap_blocks (fun _ => length_ser_readByte _ d), List.length_range]

/-- Byte `k` is read by commands `2 * k` and `2 * k + 1`, and is the last when `k + 1` is `n` (R190). -/
theorem readBytes_getElem? {n k : Nat} (hk : k < n) (d : Byte) {j : Nat} (hj : j < 2) :
    (readBytes n d)[2 * k + j]? = (readByte (k + 1 == n) d)[j]? :=
  getElem?_flatMap_blocks (fun _ => length_readByte _ d) (List.getElem?_range hk) hj

end Sys2Proof.Machine
end

section
/-! PROOFS. The statements about the Signal Sequencer (42_signal_sequencer.md). -/

namespace Sys2Proof.Machine

/-- Settles O13: the counts by blocks of three commands, and the three commands of a byte at its block
(`writeBytes_getElem?`). -/
theorem writtenBytesGoOutInOrder : Obligations.WrittenBytesGoOutInOrder := by
  refine fun bs d => ⟨length_writeBytes bs d, length_ser_writeBytes bs d, filter_writeBytes bs d, fun k b hb => ?_⟩
  refine ⟨writeBytes_getElem? hb d (j := 0) (by decide),
    ⟨releaseDir d, writeBytes_getElem? hb d (j := 1) (by decide), releaseDir_bit d 1, fun p hp => ?_⟩,
    writeBytes_getElem? hb d (j := 2) (by decide)⟩
  rw [releaseDir_bit, if_neg hp]

/-- Settles O14: the counts by blocks of two commands, and the two commands of a byte at its block
(`readBytes_getElem?`). -/
theorem onlyTheLastReadByteIsNaked : Obligations.OnlyTheLastReadByteIsNaked := by
  refine fun n d => ⟨length_readBytes n d, length_ser_readBytes n d, filter_readBytes n d, fun k hk => ?_⟩
  refine ⟨readBytes_getElem? hk d (j := 0) (by decide), (readBytes_getElem? hk d (j := 1) (by decide)).trans ?_⟩
  simp [readByte]

/-- Settles O10, from the counts of one held level. -/
theorem idleAndStopAreHeldLevels : Obligations.IdleAndStopAreHeldLevels := by
  refine fun d => ⟨rfl, length_ser_hold _ d, nShiftIn_hold _ d, rfl, ?_, ?_, ?_, rfl⟩
  · simp [stop]
  · simp [stop]
  · simp [stop]

/-- Settles O11, hold by hold (`requestedLevels_hold`). -/
theorem startAndStopSignatures : Obligations.StartAndStopSignatures := by
  intro d hscl hsda
  simp [start, stop, requestedLevels_hold hscl hsda]

/-- Settles O12: the form in 16 bits (`addrByte_eq_setWidth`) and the sum (`addrByte_toNat`). -/
theorem addressByteHoldsAddressAndDirection : Obligations.AddressByteHoldsAddressAndDirection :=
  fun addr rd h => ⟨addrByte_eq_setWidth addr rd, by rw [addrByte_toNat h]; cases rd <;> rfl⟩

end Sys2Proof.Machine
end

section
/-! PROOFS. The batch of the Transaction Builder, and the shift-ins in it (43_transaction_builder.md R210 to R221). -/

namespace Sys2Proof.Machine

variable {addr : U16} {w : List Byte} {rlen : Nat} {d : Byte} {s : State}

/-! ## Start, idle and stop: commands, bytes, and no response -/

@[simp] theorem length_idle (d : Byte) : (idle d).length = 4 := rfl

@[simp] theorem length_start (d : Byte) : (start d).length = 8 := rfl

@[simp] theorem length_stop (d : Byte) : (stop d).length = 12 := rfl

@[simp] theorem length_ser_idle (d : Byte) : (ser (idle d)).length = 12 := rfl

@[simp] theorem length_ser_start (d : Byte) : (ser (start d)).length = 24 := rfl

@[simp] theorem length_ser_stop (d : Byte) : (ser (stop d)).length = 36 := rfl

@[simp] theorem filter_idle (d : Byte) : (idle d).filter isShiftIn = [] := filter_hold _ d

@[simp] theorem filter_start (d : Byte) : (start d).filter isShiftIn = [] := by
  simp [start, filter_hold]

@[simp] theorem filter_stop (d : Byte) : (stop d).filter isShiftIn = [] := by
  simp [stop, filter_hold]

theorem filter_writeByte (b d : Byte) : (writeByte b d).filter isShiftIn = [.shiftIn 1] := rfl

/-- A stop ends at the idle levels (R184). -/
theorem getLast?_stop (d : Byte) : (stop d).getLast? = some (.setPins (Lv true true) d) := rfl

theorem writeBytes_singleton (b d : Byte) : writeBytes [b] d = writeByte b d :=
  List.flatMap_singleton _ b

/-! ## The batch, with step 3 and without it -/

/-- The batch when step 3 is not taken (R211 to R214). -/
theorem build_short_batch (h : w = [] ∨ rlen = 0) :
    (build addr w rlen d s).batch = start d ++ writeBytes (addrByte addr false :: w) d ++ stop d := by
  have hn : ¬(w.length ≠ 0 ∧ rlen ≠ 0) := fun ⟨hw, hr⟩ => h.elim (fun hh => hw (List.length_eq_zero_iff.mpr hh)) hr
  simp only [build, if_neg hn, buildWrite, buildStart, State.emitAll_batch, List.nil_append]

/-- The batch of a combined transaction (R211 to R214, R219). -/
theorem build_combined_batch (hw : w ≠ []) (hr : rlen ≠ 0) :
    (build addr w rlen d s).batch =
      start d ++ (writeBytes (addrByte addr false :: w) d ++ stop d ++ idle d ++ start d ++
        writeByte (addrByte addr true) d ++ readBytes rlen d) ++ stop d := by
  have hp : w.length ≠ 0 ∧ rlen ≠ 0 := ⟨fun hh => hw (List.length_eq_zero_iff.mp hh), hr⟩
  simp only [build, if_pos hp, buildWrite, buildStart, buildRead, State.emitAll_batch, List.nil_append,
    writeBytes_singleton, List.append_assoc]

/-- Every batch begins with a start and ends with a stop (R211, R214). -/
theorem build_batch_framed (addr : U16) (w : List Byte) (rlen : Nat) (d : Byte) (s : State) :
    ∃ middle, (build addr w rlen d s).batch = start d ++ middle ++ stop d := by
  by_cases h : w = [] ∨ rlen = 0
  · exact ⟨_, build_short_batch h⟩
  · obtain ⟨hw, hr⟩ := not_or.mp h
    exact ⟨_, build_combined_batch hw hr⟩

/-! ## The shift-ins of the batch -/

theorem nShiftIn_eq_length_filter (cs : List Instr) : nShiftIn cs = (cs.filter isShiftIn).length :=
  List.countP_eq_length_filter

theorem nAckBearing_eq_count_filter (cs : List Instr) : nAckBearing cs = (cs.filter isShiftIn).count (.shiftIn 1) :=
  (List.count_filter rfl).symm

theorem nReadOps_eq_count_filter (cs : List Instr) : nReadOps cs = (cs.filter isShiftIn).count (.shiftIn 8) :=
  (List.count_filter rfl).symm

/-- The layout of the response: RCOUNT − RDLEN acknowledgments, then RDLEN data bytes (R221). -/
theorem filter_build (addr : U16) (w : List Byte) (rlen : Nat) (d : Byte) (s : State) :
    (build addr w rlen d s).batch.filter isShiftIn =
      List.replicate ((build addr w rlen d s).rcount - (build addr w rlen d s).rdlen) (.shiftIn 1) ++
        List.replicate (build addr w rlen d s).rdlen (.shiftIn 8) := by
  by_cases h : w = [] ∨ rlen = 0
  · obtain ⟨hn, hk⟩ := build_short_counters (addr := addr) (d := d) (s := s) h
    rw [build_short_batch h, hn, hk]
    simp [filter_writeBytes, Nat.add_comm]
  · obtain ⟨hw, hr⟩ := not_or.mp h
    obtain ⟨hn, hk⟩ := build_combined_counters (addr := addr) (d := d) (s := s) hw hr
    rw [build_combined_batch hw hr, hn, hk, Nat.add_sub_cancel, List.replicate_succ']
    simp [filter_writeBytes, filter_writeByte, filter_readBytes, Nat.add_comm]

/-- The address byte in write direction has its acknowledgment in every batch, and no data byte is counted there
(R212, R213). -/
theorem build_rdlen_lt_rcount (addr : U16) (w : List Byte) (rlen : Nat) (d : Byte) (s : State) :
    (build addr w rlen d s).rdlen < (build addr w rlen d s).rcount := by
  by_cases h : w = [] ∨ rlen = 0
  · obtain ⟨hn, hk⟩ := build_short_counters (addr := addr) (d := d) (s := s) h
    omega
  · obtain ⟨hw, hr⟩ := not_or.mp h
    obtain ⟨hn, hk⟩ := build_combined_counters (addr := addr) (d := d) (s := s) hw hr
    omega

/-- The counter law: one shift-in for each response byte that RCOUNT asks for (R216). -/
theorem nShiftIn_build (addr : U16) (w : List Byte) (rlen : Nat) (d : Byte) (s : State) :
    nShiftIn (build addr w rlen d s).batch = (build addr w rlen d s).rcount := by
  rw [nShiftIn_eq_length_filter, filter_build, List.length_append, List.length_replicate, List.length_replicate,
    Nat.sub_add_cancel (build_rdlen_lt_rcount addr w rlen d s).le]

theorem nAckBearing_build (addr : U16) (w : List Byte) (rlen : Nat) (d : Byte) (s : State) :
    nAckBearing (build addr w rlen d s).batch = (build addr w rlen d s).rcount - (build addr w rlen d s).rdlen := by
  rw [nAckBearing_eq_count_filter, filter_build]
  simp [List.count_replicate]

theorem nReadOps_build (addr : U16) (w : List Byte) (rlen : Nat) (d : Byte) (s : State) :
    nReadOps (build addr w rlen d s).batch = (build addr w rlen d s).rdlen := by
  rw [nReadOps_eq_count_filter, filter_build]
  simp [List.count_replicate]

end Sys2Proof.Machine
end

section
/-! PROOFS. The statements about the Transaction Builder (43_transaction_builder.md). -/

namespace Sys2Proof.Machine

/-- Settles O15: the stop that ends the batch (`build_batch_framed`) holds its last command. -/
theorem everyBatchStartsAndStops : Obligations.EveryBatchStartsAndStops := by
  intro addr w rlen d s
  obtain ⟨middle, h⟩ := build_batch_framed addr w rlen d s
  exact ⟨⟨middle, h⟩, by rw [h, List.getLast?_append, getLast?_stop, Option.some_or]⟩

/-- Settles O16: the batch and the counters without step 3 and with it; the operations are counted by the counters
(`nAckBearing_build`, `nReadOps_build`). -/
theorem batchOfEachTransaction : Obligations.BatchOfEachTransaction := by
  intro addr w rlen d s
  refine ⟨?emptyPayload, ?writeOnly, ?combined⟩
  case emptyPayload =>
    rintro rfl
    obtain ⟨hn, hk⟩ := build_short_counters (addr := addr) (rlen := rlen) (d := d) (s := s) (.inl rfl)
    exact ⟨by rw [build_short_batch (.inl rfl), writeBytes_singleton], hn, hk, by rw [nReadOps_build, hk]⟩
  case writeOnly =>
    rintro - rfl
    obtain ⟨hn, hk⟩ := build_short_counters (addr := addr) (w := w) (d := d) (s := s) (.inr rfl)
    exact ⟨build_short_batch (.inr rfl), hn, hk, by rw [nAckBearing_build, hn, hk, Nat.sub_zero],
      by rw [nReadOps_build, hk]⟩
  case combined =>
    intro hw hr
    have hr0 : rlen ≠ 0 := Nat.one_le_iff_ne_zero.mp hr
    refine ⟨?_, build_combined_counters hw hr0⟩
    rw [build_combined_batch hw hr0]
    simp only [List.append_assoc, List.singleton_append]

/-- Settles O17, from the layout of the shift-ins (`filter_build`). -/
theorem responseLayoutFollowsTheCounters : Obligations.ResponseLayoutFollowsTheCounters :=
  fun addr w rlen d s => ⟨filter_build addr w rlen d s, nShiftIn_build addr w rlen d s,
    Nat.one_le_of_lt (build_rdlen_lt_rcount addr w rlen d s)⟩

/-- Settles O18: the sizes of the parts of the batch, added up. -/
theorem batchSizes : Obligations.BatchSizes := by
  refine fun addr w rlen d s => ⟨fun h => ?_, fun hw hr => ?_⟩
  · rw [build_short_batch h]
    simp only [ser_append, List.length_append, length_start, length_stop, length_ser_start, length_ser_stop,
      length_writeBytes, length_ser_writeBytes, List.length_cons]
    omega
  · rw [build_combined_batch hw hr]
    simp only [ser_append, List.length_append, length_start, length_stop, length_idle, length_ser_start,
      length_ser_stop, length_ser_idle, length_writeBytes, length_ser_writeBytes, length_writeByte,
      length_ser_writeByte, length_readBytes, length_ser_readBytes, List.length_cons]
    omega

end Sys2Proof.Machine
end

section
/-! PROOFS. Runs of a TRANSACT, phase by phase (44_transaction_executor.md R230 to R239): the state after each number of
its interactions, and its two ends, by the judgement of the response and by a failure. -/

namespace Sys2Proof.Machine

variable {s : State} {i : Instr} {ix : Interaction} {a : Answer} {later : List Answer}

/-! ## The steps of a request in service -/

/-- The failure of the present phase's interaction takes one step (R304). -/
theorem step_fails (ho : s.outStream = []) (hr : s.req = some i) (hx : s.interaction i = some ix)
    (ha : s.answers = a :: later) (hf : a.reply ix = none) :
    step s = .next (({ s.issued ix with answers := later }.failed i ix).afterError i) := by
  have hp : s.phase ≠ .ready := fun hp => by simpa [hp, Phase.interacts] using interacts_of_interaction hx
  rw [step_service ho hp hr, exec_interaction hx, interact_err ha hf]

/-- The success of an interaction that writes nothing, as one update (R44, R351). -/
theorem State.succeeded_of_silent (hw : written ix = []) :
    ({ s.issued ix with answers := later } : State).succeeded ix = { s with
      awaiting := false, answers := later, history := s.historyWith ix, draws := s.draws + 1
      adapter := adapterAfter s.ident s.adapter ix } := by
  rw [State.issued_eq, State.succeeded, hw, List.append_nil]

/-- With nothing on the outbound stream and nothing outstanding, a request released leaves the block at rest (R239). -/
theorem State.atRest_release (ho : s.outStream = []) (ha : s.awaiting = false) : s.release.atRest :=
  ⟨rfl, rfl, ho, ha⟩

theorem State.transientsEmpty_release (s : State) : s.release.transientsEmpty := ⟨rfl, rfl, rfl, rfl⟩

/-- A stream of emittable commands is executed to its end, and nothing but the adapter and the count of free values
changes (R85, R145). -/
theorem reaches_executed {bs : List Byte} (hbs : CommandStream bs) (ho : s.outStream = bs) :
    ∃ k adapter draws, Reaches s k { s with outStream := [], adapter := adapter, draws := draws } := by
  obtain ⟨cs, hcs, rfl⟩ := hbs
  obtain ⟨_, -, hrun⟩ := oneResponseByteForEachShiftIn s cs (fun c hc => emittable_command (hcs c hc)) ho
  obtain ⟨t, hreach, hout, -, hframe⟩ := hrun cs [] (List.append_nil cs).symm
  rw [hframe, hout] at hreach
  exact ⟨_, _, _, hreach⟩

variable {addr : U16} {w : List Byte} {rlen : Nat}

/-- What VALIDATE and COPY make of the response of a TRANSACT with a read buffer of `rlen` bytes (R234, R236). -/
def State.judgement (s : State) (rlen : Nat) : Completion :=
  if (ackRegion s.rcount rlen s.resp).any nak then ⟨.nakReceived, .rdata none⟩
  else ⟨.ok, .rdata (readData s.rcount s.rdlen s.resp)⟩

/-- From VALIDATE a TRANSACT comes to its judgement, which is delivered (R239). -/
theorem reaches_judged (ho : s.outStream = []) (hr : s.req = some (.transact addr w rlen)) (hp : s.phase = .validate) :
    ∃ k, Reaches s k { s with cpl := some (s.judgement rlen) }.release := by
  unfold State.judgement
  have hjudge := (step_service ho (by simp [hp]) hr).trans (exec_transact_validate hp)
  split_ifs at hjudge ⊢ with hn
  · exact ⟨2, reaches_succ hjudge (reaches_succ (step_releases ho rfl hr rfl) (reaches_zero _))⟩
  · have hcopy := (step_service (s := { s with phase := .copy }) ho nofun hr).trans (exec_transact_copy rfl)
    exact ⟨3, reaches_succ hjudge (reaches_succ hcopy (reaches_succ (step_releases ho rfl hr rfl) (reaches_zero _)))⟩

/-- A TRANSACT whose interaction fails delivers TRANSPORT_ERROR without data, in two steps (R238, R239, R304). -/
theorem reaches_failed (ho : s.outStream = []) (hr : s.req = some (.transact addr w rlen))
    (hx : s.interaction (.transact addr w rlen) = some ix) (ha : s.answers = a :: later) (hf : a.reply ix = none) :
    Reaches s 2 { { s.issued ix with answers := later }.failed (.transact addr w rlen) ix with
      cpl := some ⟨.transportError, .rdata none⟩ }.release := by
  have hfail := step_fails ho hr hx ha hf
  have hrelease := step_releases (i := .transact addr w rlen)
    (s := ({ s.issued ix with answers := later }.failed (.transact addr w rlen) ix).afterError (.transact addr w rlen))
    (by simpa [State.afterError] using ho) rfl (by simpa [State.afterError] using hr) rfl
  exact reaches_succ hfail (reaches_succ hrelease (reaches_zero _))

/-- What `build` writes into any state is what it writes into another one (R194, R210). -/
theorem build_registers {d : Byte} (t s : State) :
    build addr w rlen d t = { t with
      batch := (build addr w rlen d s).batch, rcount := (build addr w rlen d s).rcount
      rdlen := (build addr w rlen d s).rdlen } := by
  obtain ⟨hbatch, hrcount, hrdlen⟩ := build_batch addr w rlen d t s
  rw [build_eq, hbatch, hrcount, hrdlen]

/-- The result data of a TRANSACT (R213, R236): the last `rlen` bytes of its response, or nothing when step 3 of the
builder was not taken. -/
theorem readData_build {d : Byte} {resp : List Byte} (hlen : resp.length = (build addr w rlen d s).rcount) :
    readData (build addr w rlen d s).rcount (build addr w rlen d s).rdlen resp =
      if w = [] ∨ rlen = 0 then none else some (resp.drop (resp.length - rlen)) := by
  rw [← hlen]
  split_ifs with h
  · rw [(build_short_counters h).2, readData, if_pos rfl]
  · obtain ⟨hw, hr⟩ := not_or.mp h
    obtain ⟨hn, hk⟩ := build_combined_counters (addr := addr) (d := d) (s := s) hw hr
    have htail : (resp.drop (resp.length - rlen)).length ≤ rlen := by
      rw [List.length_drop]
      omega
    rw [hk, readData, if_neg hr, List.take_of_length_le htail]

/-! ## A TRANSACT after each of its interactions -/

/-- The interactions of a TRANSACT issued at rest, in order (R231, R232). -/
def State.transactInteractions (s : State) (addr : U16) (w : List Byte) (rlen : Nat) : List Interaction :=
  [.txFlush, .txWrite (ser (build addr w rlen s.dir s).batch), .txFlush, .txRead (build addr w rlen s.dir s).rcount]

/-- The phase that makes the interaction after the first `n`: the last is that of `READ` (R39). -/
def transactPhase : Nat → Phase
  | 0 => .flush0
  | 1 => .write
  | 2 => .flush1
  | _ => .read

/-- The state in which the TRANSACT chosen from `s`, of requester `r`, has made its first `n` interactions with success
and the adapter has executed what it wrote. The read moves on to `VALIDATE` (`reaches_read`). -/
def State.transacting (s : State) (r : Nat) (addr : U16) (w : List Byte) (rlen n : Nat) (answers : List Answer)
    (adapter : Adapter) (draws : Nat) : State :=
  { (s.present s.pick r).take (.transact addr w rlen) with
    phase := transactPhase n, batch := (build addr w rlen s.dir s).batch, rcount := (build addr w rlen s.dir s).rcount
    rdlen := (build addr w rlen s.dir s).rdlen, answers := answers, adapter := adapter, draws := draws
    history := s.history ++
      ((s.transactInteractions addr w rlen).take n).map (PortRecord.mk (s.serial + 1)) }

variable {r n : Nat} {answers : List Answer} {adapter : Adapter} {draws : Nat} {bs : List Byte}

/-- The next interaction is the one its phase makes (R39). -/
theorem transacting_interaction (hix : (s.transactInteractions addr w rlen)[n]? = some ix) :
    (s.transacting r addr w rlen n answers adapter draws).interaction (.transact addr w rlen) = some ix := by
  match n, hix with
  | 0, hix => exact hix
  | 1, hix => exact hix
  | 2, hix => exact hix
  | 3, hix => exact hix

/-- Its interactions stand in the history in order, the next one after those made (R79). -/
theorem transacting_historyWith (hix : (s.transactInteractions addr w rlen)[n]? = some ix) :
    (s.transacting r addr w rlen n answers adapter draws).historyWith ix = s.history ++
      ((s.transactInteractions addr w rlen).take (n + 1)).map (PortRecord.mk (s.serial + 1)) := by
  rw [List.take_add_one, hix, List.map_append, ← List.append_assoc]
  rfl

/-- Success of an interaction before the read: the next phase, with what was written on the outbound stream. -/
theorem transacting_afterSuccess (hn : n < 3) (hix : (s.transactInteractions addr w rlen)[n]? = some ix) :
    ({ (s.transacting r addr w rlen n answers adapter draws).issued ix with
        answers := later }.succeeded ix).afterSuccess (.transact addr w rlen) (transactPhase n) bs =
      { s.transacting r addr w rlen (n + 1) later (adapterAfter s.ident adapter ix) (draws + 1) with
        outStream := s.outStream ++ written ix } := by
  rw [State.issued_eq, transacting_historyWith hix]
  obtain rfl | rfl | rfl : n = 0 ∨ n = 1 ∨ n = 2 := by omega
  all_goals rfl

/-- The bytes any of its interactions writes are whole commands (R117, R231). -/
theorem commandStream_written (hix : ix ∈ s.transactInteractions addr w rlen) : CommandStream (written ix) := by
  simp only [State.transactInteractions, List.mem_cons, List.not_mem_nil, or_false] at hix
  obtain rfl | rfl | rfl | rfl := hix
  · exact .nil
  · exact ⟨_, fun _ => emittable_build, rfl⟩
  · exact .nil
  · exact .nil

/-- With a success ready, a TRANSACT makes its next interaction, and the adapter executes what that wrote. -/
theorem reaches_next_interaction (ho : s.outStream = []) (hn : n < 3) (b : List Byte) :
    ∃ k adapter' draws', Reaches (s.transacting r addr w rlen n (.ok b :: later) adapter draws) k
      (s.transacting r addr w rlen (n + 1) later adapter' draws') := by
  obtain ⟨ix, hix, hread⟩ : ∃ ix, (s.transactInteractions addr w rlen)[n]? = some ix ∧ ∀ m, ix ≠ .txRead m := by
    obtain rfl | rfl | rfl : n = 0 ∨ n = 1 ∨ n = 2 := by omega
    all_goals exact ⟨_, rfl, nofun⟩
  have hstep := step_succeeds (s := s.transacting r addr w rlen n (.ok b :: later) adapter draws) ho rfl
    (transacting_interaction hix) rfl (Answer.reply_ok b hread)
  have hafter := transacting_afterSuccess (r := r) (answers := .ok b :: later) (adapter := adapter) (draws := draws)
    (later := later) (bs := b) hn hix
  obtain ⟨k, adapter', draws', hrun⟩ := reaches_executed (s :=
    { s.transacting r addr w rlen (n + 1) later (adapterAfter s.ident adapter ix) (draws + 1) with
      outStream := s.outStream ++ written ix }) (commandStream_written (List.mem_of_getElem? hix)) (by simp [ho])
  rw [← ho] at hrun
  exact ⟨k + 1, adapter', draws', reaches_succ (hstep.trans (congrArg _ hafter)) hrun⟩

/-- With RCOUNT bytes ready, a TRANSACT makes its read and comes to VALIDATE (R232). -/
theorem reaches_read (ho : s.outStream = []) (hlen : bs.length = (build addr w rlen s.dir s).rcount) :
    ∃ adapter' draws', Reaches (s.transacting r addr w rlen 3 (.ok bs :: later) adapter draws) 1
      { s.transacting r addr w rlen 4 later adapter' draws' with phase := .validate, resp := bs } := by
  have hstep := step_succeeds (s := s.transacting r addr w rlen 3 (.ok bs :: later) adapter draws) ho rfl
    (transacting_interaction (n := 3) rfl) rfl (Answer.reply_read.mpr ⟨rfl, hlen⟩)
  rw [State.succeeded_of_silent rfl, transacting_historyWith rfl] at hstep
  exact ⟨_, _, reaches_succ hstep (reaches_zero _)⟩

/-! ## A TRANSACT chosen at rest, while configured -/

section
variable {frame : List Byte} (hs : s.atRest) (hcfg : s.cfg = true) (hw : s.waitq[s.pick]? = some ⟨r, frame⟩)
  (hq : requestOf frame = some (.transact addr w rlen)) (haddr : addr.toNat ≤ 0x7F)
include hs hcfg hw hq haddr

/-- The TRANSACT is taken and its batch built, in two steps (R230, R210). -/
theorem reaches_built : Reaches s 2 (s.transacting r addr w rlen 0 s.answers s.adapter (s.draws + 1)) := by
  obtain ⟨hp, hl, ho, -⟩ := hs
  have htake := step_takes ho hp hl hw hq (admits_transact.mpr ⟨hcfg, haddr⟩)
  have hbuild := (step_service (s := { (s.present s.pick r).take (.transact addr w rlen) with
    phase := .build, cpl := none }) ho nofun rfl).trans (exec_transact_build rfl)
  rw [build_registers _ s] at hbuild
  rw [State.transacting, List.take_zero, List.map_nil, List.append_nil]
  exact reaches_succ htake (reaches_succ hbuild (reaches_zero _))

/-- As many successes as are ready before the read carry it past as many of its interactions (R231). -/
theorem reaches_transacting {good : List (List Byte)} (hn : good.length ≤ 3)
    (ha : s.answers = good.map Answer.ok ++ later) :
    ∃ k adapter draws, Reaches s k (s.transacting r addr w rlen good.length later adapter draws) := by
  induction good using List.reverseRecOn generalizing later with
  | nil =>
    have hbuilt := reaches_built hs hcfg hw hq haddr
    rw [ha] at hbuilt
    exact ⟨2, _, _, hbuilt⟩
  | append_singleton good b ih =>
    rw [List.length_append, List.length_singleton] at hn ⊢
    have ⟨_, _, ho, _⟩ := hs
    obtain ⟨j, _, _, hgood⟩ := ih (later := .ok b :: later) (by omega) (by simpa using ha)
    obtain ⟨k, adapter, draws, hlast⟩ := reaches_next_interaction ho (n := good.length) (by omega) b
    exact ⟨j + k, adapter, draws, reaches_trans hgood hlast⟩

end

end Sys2Proof.Machine
end

section
/-! PROOFS. The statements about the Transaction Executor (44_transaction_executor.md). -/

namespace Sys2Proof.Machine

/-- Settles O52: three successes carry the TRANSACT to its read (`reaches_transacting`), whose success leaves the
response to be judged (`reaches_judged`). -/
theorem transactRunsToItsCompletion : Obligations.TransactRunsToItsCompletion := by
  intro s r frame addr w rlen b0 b1 b2 response later hs hcfg hw hq haddr ha hlen
  obtain ⟨j, adapter, draws, hrun⟩ := reaches_transacting hs hcfg hw hq haddr (good := [b0, b1, b2])
    (later := .ok response :: later) le_rfl ha
  have ⟨_, _, ho, _⟩ := hs
  obtain ⟨adapter', draws', hread⟩ := reaches_read ho hlen
  obtain ⟨k, hjudge⟩ := reaches_judged
    (s := { s.transacting r addr w rlen 4 later adapter' draws' with phase := .validate, resp := response }) ho rfl rfl
  refine ⟨_, _, reaches_trans hrun (reaches_trans hread hjudge), State.atRest_release ho rfl,
    State.transientsEmpty_release _, rfl, rfl, rfl, rfl, rfl, rfl, rfl, ?_, ?_⟩
  · rw [hlen]; rfl
  · rw [← readData_build hlen, hlen]; rfl

/-- Settles O53: the successes carry the TRANSACT as far as the interaction that fails (`reaches_transacting`), which
ends it (`reaches_failed`). -/
theorem transactStopsAtTheFirstFailure : Obligations.TransactStopsAtTheFirstFailure := by
  intro s r frame addr w rlen good a later hs hcfg hw hq haddr hn ha hbad
  obtain ⟨j, adapter, draws, hrun⟩ := reaches_transacting hs hcfg hw hq haddr hn ha
  have ⟨_, _, ho, _⟩ := hs
  obtain ⟨ix, hix, hfails⟩ : ∃ ix, (s.transactInteractions addr w rlen)[good.length]? = some ix ∧ a.fails ix := by
    obtain rfl | ⟨h3, bs, rfl, hbs⟩ := hbad
    · have hlt : good.length < (s.transactInteractions addr w rlen).length := Nat.lt_succ_of_le hn
      exact ⟨_, List.getElem?_eq_getElem hlt, .inl rfl⟩
    · rw [h3]
      exact ⟨_, rfl, .inr ⟨_, bs, rfl, rfl, hbs⟩⟩
  have hend := reaches_failed (s := s.transacting r addr w rlen good.length (a :: later) adapter draws) ho rfl
    (transacting_interaction hix) rfl (Answer.reply_none.mpr hfails)
  rw [State.issued_eq, transacting_historyWith hix] at hend
  exact ⟨_, _, reaches_trans hrun hend, State.atRest_release ho rfl, State.transientsEmpty_release _,
    rfl, rfl, rfl, rfl, rfl, rfl, rfl, rfl⟩

/-- Settles O29: `BUILD` writes the batch and its counters alone (`build_eq`), and each interaction succeeds. -/
theorem transactInteractsInOrder : Obligations.TransactInteractsInOrder := by
  intro s addr w rlen bs later
  refine ⟨fun hp => ?build, fun ha => ⟨fun hp => ?flush0, fun hp => ?write, fun hp => ?flush1, fun hp hlen => ?read⟩⟩
  case build => rw [exec_transact_build hp, build_eq]
  case flush0 =>
    rw [exec_transact_flush0 hp, interact_ok ha rfl, State.succeeded_of_silent rfl]
    rfl
  case write =>
    rw [exec_transact_write hp, interact_ok ha rfl, State.issued_eq]
    rfl
  case flush1 =>
    rw [exec_transact_flush1 hp, interact_ok ha rfl, State.succeeded_of_silent rfl]
    rfl
  case read =>
    rw [exec_transact_read hp, interact_ok ha (Answer.reply_read.mpr ⟨rfl, hlen⟩), State.succeeded_of_silent rfl]
    rfl

/-- Settles O30: the last RDLEN bytes of the response are its data part. -/
theorem transactCopiesTheTrailingBytes : Obligations.TransactCopiesTheTrailingBytes := by
  intro s addr w rlen acks data hp hresp hrcount hrdlen
  refine ⟨_, exec_transact_copy hp, rfl, ?_⟩
  have hdata : readData s.rcount s.rdlen s.resp = if data = [] then none else some data := by
    simp [readData, hresp, hrcount, hrdlen]
  rw [hdata]
  refine ⟨rfl, fun buffer => ?_⟩
  split_ifs <;> rfl

/-- Settles O31: the region holds a NAK exactly when one of its bytes has bit 0 set (`any_nak_iff`). -/
theorem anyNakFailsTheTransaction : Obligations.AnyNakFailsTheTransaction := by
  intro s addr w rlen hp
  rw [exec_transact_validate hp]
  refine ⟨fun hnak => if_pos (any_nak_iff.mpr hnak), fun hack => if_neg fun hnak => ?_⟩
  obtain ⟨k, b, hk, hb, hbit⟩ := any_nak_iff.mp hnak
  cases (hack k b hk hb).symm.trans hbit

/-- Settles O32: the exit is the same for every request (`exec_done`). -/
theorem doneReleasesAndDelivers : Obligations.DoneReleasesAndDelivers := by
  intro s i c hi hp hc
  rw [exec_done hi hp, State.release, State.deliveries, hc]
  rfl

end Sys2Proof.Machine
end

section
/-! PROOFS. `WAITQ` and the answers, which the outside writes: a request in service reads no waiting request, and
arrivals keep the invariant (45_bus_lifecycle.md R250, R251). -/

namespace Sys2Proof.Machine

variable {s t : State} {i : Instr} {ix : Interaction}

/-! ## Arrivals keep the invariant -/

/-- A requester with nothing outstanding neither waits nor is served (R251). -/
theorem not_outstanding {r : Nat} (h : s.outstanding r ≠ true) :
    r ∉ s.waitq.map Waiting.requester ∧ s.lock ≠ .held r := by
  simpa [State.outstanding] using h

/-- A request that arrives keeps the invariant: its requester had nothing outstanding (R251). -/
theorem StateInv.issue (h : StateInv s) (r : Nat) (frame : List Byte) : StateInv (s.issue r frame) := by
  unfold State.issue
  split
  case isTrue => exact h
  case isFalse hout =>
    obtain ⟨hnotWaiting, hnotServed⟩ := not_outstanding hout
    obtain ⟨hnodup, hserved⟩ := h.oneEach
    refine { h with built := h.built_congr rfl rfl rfl rfl rfl rfl, oneEach := ⟨?_, fun q hq => ?_⟩ }
    · rw [List.map_append]
      exact List.nodup_append.mpr ⟨hnodup, List.nodup_singleton r, fun a ha b hb hab => by
        cases List.mem_singleton.mp hb; cases hab; exact hnotWaiting ha⟩
    · obtain ⟨hcaller, hq'⟩ := hserved q hq
      have hne : q ≠ r := fun hqr => hnotServed (hqr ▸ hq)
      exact ⟨hcaller, by simpa [hne] using hq'⟩

/-- An answer made ready keeps the invariant, which speaks of no answers (R44). -/
theorem StateInv.answer (h : StateInv s) (a : Answer) : StateInv (s.answer a) :=
  h.withPorts (s.answers ++ [a]) s.adapter s.draws h.stream

/-! ## A request in service does not read `WAITQ` -/

/-- The state with another `WAITQ`. -/
def State.withWaitq (s : State) (q : List Waiting) : State := { s with waitq := q }

/-- An arrival writes `WAITQ` alone. -/
theorem issue_eq_withWaitq (s : State) (r : Nat) (frame : List Byte) :
    s.issue r frame = s.withWaitq (s.issue r frame).waitq := by
  unfold State.issue
  split <;> rfl

/-- What an arrival makes of `WAITQ` depends on `WAITQ` and `LOCK` alone (R251). -/
theorem issue_waitq_congr (hw : t.waitq = s.waitq) (hl : t.lock = s.lock) (r : Nat) (frame : List Byte) :
    (t.issue r frame).waitq = (s.issue r frame).waitq := by
  rw [State.issue_waitq, State.issue_waitq, State.outstanding, State.outstanding, hw, hl]

theorem issued_withWaitq (s : State) (ix : Interaction) (q : List Waiting) :
    (s.withWaitq q).issued ix = (s.issued ix).withWaitq q := by
  rw [State.issued_eq, State.issued_eq]
  rfl

theorem afterSuccess_withWaitq (t : State) (i : Instr) (p : Phase) (bs : List Byte) (q : List Waiting) :
    (t.withWaitq q).afterSuccess i p bs = (t.afterSuccess i p bs).withWaitq q := by
  cases p <;> cases i <;> rfl

theorem afterError_withWaitq (t : State) (i : Instr) (q : List Waiting) :
    (t.withWaitq q).afterError i = (t.afterError i).withWaitq q := by
  cases i <;> rfl

theorem build_withWaitq (addr : U16) (w : List Byte) (rlen : Nat) (d : Byte) (s : State) (q : List Waiting) :
    build addr w rlen d (s.withWaitq q) = (build addr w rlen d s).withWaitq q := by
  unfold build
  split <;> rfl

/-- An interaction does not read `WAITQ`, whatever it answers. -/
theorem exec_interaction_withWaitq (hx : s.interaction i = some ix) (h : exec i s = .next t) (q : List Waiting) :
    exec i (s.withWaitq q) = .next (t.withWaitq q) := by
  rw [exec_interaction hx] at h
  rw [exec_interaction (s := s.withWaitq q) hx]
  obtain ⟨ha, hh⟩ | ⟨a, later, bs, ha, hr, hh⟩ | ⟨a, later, ha, hr, hh⟩ := interact_cases i ix _ _ s <;>
    cases hh.symm.trans h
  · rw [interact_hold (s := s.withWaitq q) ha, issued_withWaitq]
  · rw [interact_ok (s := s.withWaitq q) ha hr, issued_withWaitq]
    have hq := afterSuccess_withWaitq ({ s.issued ix with answers := later }.succeeded ix) i s.phase bs q
    exact congrArg _ hq
  · rw [interact_err (s := s.withWaitq q) ha hr, issued_withWaitq]
    have hq := afterError_withWaitq ({ s.issued ix with answers := later }.failed i ix) i q
    exact congrArg _ hq

/-- No phase of a path reads `WAITQ` (R40). -/
theorem exec_onPath_withWaitq (hp : s.phase ∈ pathOf i) (h : exec i s = .next t) (q : List Waiting) :
    exec i (s.withWaitq q) = .next (t.withWaitq q) := by
  obtain ⟨ix, hx⟩ | ⟨hb, channel, pullUp, rfl⟩ | ⟨addr, w, rlen, rfl, hb | hv | hc⟩ | hd := onPath_cases hp
  · exact exec_interaction_withWaitq hx h q
  · cases (exec_openBus_build hb).symm.trans h
    exact exec_openBus_build (s := s.withWaitq q) hb
  · cases (exec_transact_build hb).symm.trans h
    refine (exec_transact_build (s := s.withWaitq q) hb).trans ?_
    rw [build_withWaitq]
    rfl
  · have hvalidate := exec_transact_validate (s := s.withWaitq q) (addr := addr) (w := w) (rlen := rlen) hv
    rw [exec_transact_validate hv] at h
    by_cases hn : (ackRegion s.rcount rlen s.resp).any nak = true
    · rw [if_pos hn] at h
      cases h
      exact hvalidate.trans (if_pos hn)
    · rw [if_neg hn] at h
      cases h
      exact hvalidate.trans (if_neg hn)
  · cases (exec_transact_copy hc).symm.trans h
    exact exec_transact_copy (s := s.withWaitq q) hc
  · have hi := isRequest_of_mem_pathOf hp
    cases (exec_done hi hd).symm.trans h
    exact exec_done (s := s.withWaitq q) hi hd

/-- No command reads `WAITQ` (R145). -/
theorem exec_command_withWaitq (hc : i.isCommand = true) (h : exec i s = .next t) (q : List Waiting) :
    exec i (s.withWaitq q) = .next (t.withWaitq q) := by
  cases i
  case setPins | shiftOut | shiftIn | setDivisor => cases h; rfl
  case openBus | setSpeed | transact | closeBus | clockPin | dataPin => cases hc

/-- With a request in service, a step does not read `WAITQ` (R40, R250). -/
theorem StateInv.step_withWaitq (h : StateInv s) (hp : s.phase ≠ .ready) (hstep : Machine.step s = .next t)
    (q : List Waiting) : Machine.step (s.withWaitq q) = .next (t.withWaitq q) := by
  obtain ⟨c, rest, hc, he⟩ | ⟨⟨-, hready, -⟩, -⟩ | ⟨_, -, hready, -⟩ | ⟨_, _, -, hready, -⟩ | ⟨i, ho, -, hr, he⟩ :=
    step_cases hstep
  · have hcommand := exec_command_withWaitq (commandAt_isCommand hc).1 he q
    exact (step_command (s := s.withWaitq q) hc).trans hcommand
  · exact absurd hready hp
  · exact absurd hready hp
  · exact absurd hready hp
  · have hphase := exec_onPath_withWaitq (h.onPath i hr).1 he q
    exact (step_service (s := s.withWaitq q) ho hp hr).trans hphase

/-- Until `DONE` a step of the request in service leaves `WAITQ` and `LOCK` (O45). -/
theorem StateInv.step_keeps_waitq_lock (h : StateInv s) (hp : s.phase ≠ .ready) (hd : s.phase ≠ .done)
    (hstep : Machine.step s = .next t) : t.waitq = s.waitq ∧ t.lock = s.lock := by
  cases hl : s.lock with
  | free => exact absurd (h.ready_free.mpr hl) hp
  | held r =>
    obtain ⟨hwaitq, ⟨hlock, -⟩ | ⟨hdone, -⟩⟩ := lockIsHeldUntilDone s t r h hstep hl
    · exact ⟨hwaitq, hlock⟩
    · exact absurd hdone hd

end Sys2Proof.Machine
end

section
/-! PROOFS. Runs of OPEN, CLOSE and the pin introspections (45_bus_lifecycle.md R252 to R261): what CLOSE's answer makes of
the state, and what the adapter holds after OPEN's batch. -/

namespace Sys2Proof.Machine

variable {s : State} {i : Instr} {later : List Answer}

/-! ## OPEN's batch and CLOSE's answer -/

/-- OPEN's batch: the automatic divisor and four times the idle levels (R165, R182, R252). -/
theorem openBatch_eq (d : Byte) :
    openBatch d = .setDivisor 49#16 :: List.replicate 4 (.setPins (Lv true true) d) := by
  rw [openBatch, automaticDivisorIsFortyNine.1, (idleAndStopAreHeldLevels d).1]

/-- The success of CLOSE's interaction: the default configuration, and the masks cleared (R256). -/
theorem exec_closeBus_succeeds {bs : List Byte} (hp : s.phase = .reset) (ha : s.answers = .ok bs :: later) :
    exec .closeBus s = .next { s.deconfigured.complete .nothing with
      awaiting := false, answers := later, history := s.historyWith .adpResetDefault, draws := s.draws + 1
      adapter := adapterAfter s.ident s.adapter .adpResetDefault } := by
  rw [exec_closeBus_reset hp, interact_ok ha rfl, State.succeeded_of_silent rfl]
  rfl

/-- The failure of CLOSE's interaction: a free configuration of the adapter, and the masks cleared all the same (R309,
D17). -/
theorem exec_closeBus_fails (hp : s.phase = .reset) (ha : s.answers = .err :: later) :
    exec .closeBus s = .next { s.deconfigured.raise .closeBus .transportError with
      awaiting := false, answers := later, history := s.historyWith .adpResetDefault, draws := s.draws + 1
      adapter := s.adapter.reconfigured (Config.adapterAfterFailure s.ident s.draws) } := by
  rw [exec_closeBus_reset hp, interact_err ha rfl, State.issued_eq]
  rfl

/-- CLOSE's interaction has been answered: the masks are clear, and the status says whether it succeeded. What is left
of the adapter and the transient registers is what the answer decides (R256). -/
theorem exec_closeBus_answered {a : Answer} (hp : s.phase = .reset) (ha : s.answers = a :: later) :
    ∃ adapter batch rcount rdlen resp, exec .closeBus s = .next { s with
      phase := .done, cpl := some ⟨if a = .err then .transportError else .ok, .nothing⟩
      cfg := false, dir := 0x00#8, val := 0x00#8, batch := batch, rcount := rcount, rdlen := rdlen, resp := resp
      awaiting := false, answers := later, history := s.historyWith .adpResetDefault, draws := s.draws + 1
      adapter := adapter } := by
  cases a with
  | ok bs => exact ⟨_, _, _, _, _, exec_closeBus_succeeds hp ha⟩
  | err => exact ⟨_, _, _, _, _, exec_closeBus_fails hp ha⟩

/-! ## What the adapter holds after OPEN's batch -/

/-- Of levels written `n + 1` times the adapter executes the first, and `n` are left (R142). -/
theorem step_levels_held {v d : Byte} {n : Nat} (ho : s.outStream = ser (List.replicate (n + 1) (.setPins v d))) :
    step s = .next { s with
      outStream := ser (List.replicate n (.setPins v d))
      adapter := { s.adapter with
        pinDir := d, pinOut := v, trace := s.adapter.trace ++ [.slice v d] } } :=
  step_command (by rw [ho]; rfl)

/-- Levels written at least once are on the adapter's pins when all of them are executed (R142). -/
theorem reaches_levels_held {v d : Byte} {n : Nat} (ho : s.outStream = ser (List.replicate (n + 1) (.setPins v d))) :
    ∃ trace, Reaches s (n + 1) { s with
      outStream := [], adapter := { s.adapter with pinDir := d, pinOut := v, trace := trace } } := by
  induction n generalizing s with
  | zero => exact ⟨_, reaches_succ (step_levels_held ho) (reaches_zero _)⟩
  | succ n ih =>
    obtain ⟨trace, hrest⟩ := ih (s := { s with
      outStream := ser (List.replicate (n + 1) (.setPins v d))
      adapter := { s.adapter with
        pinDir := d, pinOut := v, trace := s.adapter.trace ++ [.slice v d] } }) rfl
    exact ⟨trace, reaches_succ (step_levels_held ho) hrest⟩

/-- The adapter executes OPEN's batch in five steps: divisor 49, and the lines driven idle (R252, R341). -/
theorem reaches_openBatch_executed {d : Byte} (ho : s.outStream = ser (openBatch d)) :
    ∃ trace, Reaches s 5 { s with
      outStream := []
      adapter := { s.adapter with
        clock := .divisor 49#16, pinDir := d, pinOut := Lv true true, trace := trace } } := by
  rw [openBatch_eq] at ho
  have hdivisor := step_command (s := s) (c := .setDivisor 49#16)
    (rest := ser (List.replicate 4 (.setPins (Lv true true) d))) (by rw [ho]; rfl)
  obtain ⟨trace, hidle⟩ := reaches_levels_held (s := { s with
    outStream := ser (List.replicate 4 (.setPins (Lv true true) d))
    adapter := { s.adapter with clock := .divisor 49#16 } }) (n := 3) rfl
  exact ⟨trace, reaches_succ hdivisor hidle⟩

/-! ## Runs from rest -/

variable {r : Nat} {frame : List Byte}

/-- A request that enters at `DONE` is delivered in two steps (R260, R261). -/
theorem reaches_delivered_at_once {c : Completion} (hs : s.atRest) (hw : s.waitq[s.pick]? = some ⟨r, frame⟩)
    (hq : requestOf frame = some i) (ha : admits s.cfg i = true) (he : entry i = (.done, some c)) :
    Reaches s 2 { (s.present s.pick r).take i with phase := .done, cpl := some c }.release := by
  obtain ⟨hp, hl, ho, -⟩ := hs
  have htake := step_takes ho hp hl hw hq ha
  rw [he] at htake
  exact reaches_succ htake (reaches_succ (step_releases ho rfl rfl (requestOf_isRequest hq).1) (reaches_zero _))

/-! ## OPEN after each of its interactions -/

/-- The interactions of an OPEN, in order (R252). -/
def openInteractions : List Interaction := [.adpEnterI2C, .txWrite (ser (openBatch openDir)), .txFlush]

/-- The phase that makes the interaction after the first `n` (R39). -/
def openPhase : Nat → Phase
  | 0 => .enter
  | 1 => .write
  | _ => .flush1

/-- The batch when OPEN comes to that phase: `BUILD` stands between the first two (R39). -/
def openBatchAt : Nat → List Instr
  | 0 => []
  | _ => openBatch openDir

/-- The state in which the OPEN chosen from `s`, of requester `r`, has made its first `n` interactions with success and
the adapter has executed what it wrote. -/
def State.opening (s : State) (r channel n : Nat) (answers : List Answer) (adapter : Adapter) (draws : Nat) : State :=
  { (s.present s.pick r).take (.openBus channel false) with
    phase := openPhase n, batch := openBatchAt n, answers := answers, adapter := adapter, draws := draws
    history := s.history ++ (openInteractions.take n).map (PortRecord.mk (s.serial + 1)) }

variable {channel n : Nat} {answers : List Answer} {adapter : Adapter} {draws : Nat} {ix : Interaction}

/-- Its interactions stand in the history in order, the next one after those made (R79). -/
theorem opening_historyWith (hix : openInteractions[n]? = some ix) :
    (s.opening r channel n answers adapter draws).historyWith ix =
      s.history ++ (openInteractions.take (n + 1)).map (PortRecord.mk (s.serial + 1)) := by
  rw [List.take_add_one, hix, List.map_append, ← List.append_assoc]
  rfl

/-- The OPEN is taken, in one step (R250, R252). -/
theorem reaches_open_enter (hs : s.atRest) (hcfg : s.cfg = false) (hw : s.waitq[s.pick]? = some ⟨r, frame⟩)
    (hq : requestOf frame = some (.openBus channel false)) :
    Reaches s 1 (s.opening r channel 0 s.answers s.adapter (s.draws + 1)) := by
  obtain ⟨hp, hl, ho, -⟩ := hs
  have htake := step_takes ho hp hl hw hq (by rw [hcfg]; rfl)
  rw [State.opening, List.take_zero, List.map_nil, List.append_nil]
  exact reaches_succ htake (reaches_zero _)

/-- `ENTER` and `BUILD`: I2C mode is entered, and the batch is made (R252). -/
theorem reaches_open_write (ho : s.outStream = []) (b : List Byte) :
    Reaches (s.opening r channel 0 (.ok b :: later) adapter draws) 2
      (s.opening r channel 1 later { adapter with i2cMode := true } (draws + 1)) := by
  have henter := step_succeeds (i := .openBus channel false)
    (s := s.opening r channel 0 (.ok b :: later) adapter draws) (ix := .adpEnterI2C) ho rfl rfl rfl rfl
  rw [State.succeeded_of_silent rfl, opening_historyWith rfl] at henter
  have hbuild := step_service (i := .openBus channel false) (s := { s.opening r channel 1 later
    { adapter with i2cMode := true } (draws + 1) with phase := .build, batch := [] }) ho nofun rfl
  exact reaches_succ henter (reaches_succ (hbuild.trans (exec_openBus_build rfl)) (reaches_zero _))

/-- `WRITE`: the batch is written and executed, which leaves divisor 49 and the lines driven idle (R252, R341). -/
theorem reaches_open_flush (ho : s.outStream = []) (b : List Byte) :
    ∃ trace, Reaches (s.opening r channel 1 (.ok b :: later) adapter draws) 6
      (s.opening r channel 2 later { adapter with
        clock := .divisor 49#16, pinDir := openDir, pinOut := Lv true true, trace := trace } (draws + 1)) := by
  have hwrite := step_succeeds (i := .openBus channel false)
    (s := s.opening r channel 1 (.ok b :: later) adapter draws) (ix := .txWrite (ser (openBatch openDir)))
    ho rfl rfl rfl rfl
  rw [State.issued_eq, opening_historyWith rfl] at hwrite
  obtain ⟨trace, hexecuted⟩ := reaches_openBatch_executed (s := { s.opening r channel 2 later adapter (draws + 1) with
    outStream := s.outStream ++ ser (openBatch openDir) }) (d := openDir) (by rw [ho]; rfl)
  rw [← ho] at hexecuted
  exact ⟨trace, reaches_succ hwrite hexecuted⟩

/-- `FLUSH1` and `DONE`: the masks are set, and OK is delivered (R252, R254). -/
theorem reaches_opened (ho : s.outStream = []) (b : List Byte) :
    Reaches (s.opening r channel 2 (.ok b :: later) adapter draws) 2
      ((s.opening r channel 3 later adapter (draws + 1)).configured.complete .nothing).release := by
  have hflush := step_succeeds (i := .openBus channel false)
    (s := s.opening r channel 2 (.ok b :: later) adapter draws) (ix := .txFlush) ho rfl rfl rfl rfl
  rw [State.succeeded_of_silent rfl, opening_historyWith rfl] at hflush
  have hrelease := step_releases (i := .openBus channel false)
    (s := (s.opening r channel 3 later adapter (draws + 1)).configured.complete .nothing) ho rfl rfl rfl
  exact reaches_succ hflush (reaches_succ hrelease (reaches_zero _))

end Sys2Proof.Machine
end

section
/-! PROOFS. The statements about the bus lifecycle (45_bus_lifecycle.md). -/

namespace Sys2Proof.Machine

/-- Settles O39, by `StateInv.issue` and `StateInv.answer`. -/
theorem inputsKeepTheInvariant : Obligations.InputsKeepTheInvariant :=
  fun _ h => ⟨h.issue, h.answer⟩

/-- Settles O49: the step does not read `WAITQ` (`StateInv.step_withWaitq`), and what the arrival writes there is the
same after it, `WAITQ` and `LOCK` being as they were (`StateInv.step_keeps_waitq_lock`). -/
theorem arrivalsDuringServiceWait : Obligations.ArrivalsDuringServiceWait := by
  intro s t r frame h hp hd hstep
  obtain ⟨hwaitq, hlock⟩ := h.step_keeps_waitq_lock hp hd hstep
  rw [issue_eq_withWaitq s, issue_eq_withWaitq t, issue_waitq_congr hwaitq hlock]
  exact h.step_withWaitq hp hstep _

/-- Settles O55: the CLOSE is taken, answered (`exec_closeBus_answered`), and released. -/
theorem closeRunsAlikeTheSecondTime : Obligations.CloseRunsAlikeTheSecondTime := by
  intro s r a later hs hw ha
  obtain ⟨hp, hl, ho, -⟩ := hs
  have htake := step_takes ho hp hl hw (i := .closeBus) rfl rfl
  obtain ⟨_, _, _, _, _, hanswered⟩ := exec_closeBus_answered
    (s := { (s.present s.pick r).take .closeBus with phase := .reset, cpl := none }) rfl ha
  have hreset := (step_service (s := { (s.present s.pick r).take .closeBus with phase := .reset, cpl := none })
    ho nofun rfl).trans hanswered
  exact ⟨_, reaches_succ htake (reaches_succ hreset (reaches_succ (step_releases ho rfl rfl rfl) (reaches_zero _))),
    State.atRest_release ho rfl, State.transientsEmpty_release _, rfl, rfl, rfl, rfl, rfl, rfl, rfl, rfl⟩

/-- Settles O56: either introspection enters at `DONE` with its pin (`reaches_delivered_at_once`). -/
theorem pinIntrospectionRunsToItsCompletion : Obligations.PinIntrospectionRunsToItsCompletion := by
  intro s r clock hs hw
  obtain ⟨i, hq, hadmits, hentry⟩ : ∃ i, requestOf [if clock then 0x05#8 else 0x06#8] = some i ∧
      admits s.cfg i = true ∧ entry i = (.done, some ⟨.ok, .pin (if clock then 0 else 1)⟩) := by
    cases clock with
    | true => exact ⟨.clockPin, rfl, rfl, rfl⟩
    | false => exact ⟨.dataPin, rfl, rfl, rfl⟩
  have ⟨_, _, ho, _⟩ := hs
  exact ⟨_, reaches_delivered_at_once hs hw hq hadmits hentry, State.atRest_release ho rfl,
    State.transientsEmpty_release _, rfl, rfl, rfl, rfl, rfl, rfl, rfl, rfl, rfl⟩

/-- Settles O54: the OPEN is taken, and each of its three interactions succeeds; what `WRITE` wrote is executed before
the flush (`reaches_open_flush`). -/
theorem openRunsToItsCompletion : Obligations.OpenRunsToItsCompletion := by
  intro s r frame channel b0 b1 b2 later hs hcfg hw hq ha
  have henter := reaches_open_enter hs hcfg hw hq
  rw [ha] at henter
  have ⟨_, _, ho, _⟩ := hs
  obtain ⟨trace, hflush⟩ := reaches_open_flush (r := r) (channel := channel) (later := .ok b2 :: later)
    (adapter := { s.adapter with i2cMode := true }) (draws := s.draws + 1 + 1) ho b1
  have hrun := reaches_trans henter (reaches_trans (reaches_open_write ho b0)
    (reaches_trans hflush (reaches_opened ho b2)))
  refine ⟨_, _, hrun, State.atRest_release ho rfl, State.transientsEmpty_release _,
    rfl, rfl, rfl, rfl, rfl, rfl, rfl, rfl, rfl, rfl, ?_, rfl⟩
  rw [← openBatch_eq]
  rfl

/-- Settles O27: `BUILD` emits OPEN's batch (`openBatch_eq`), and each interaction succeeds. -/
theorem openCompletesPhaseByPhase : Obligations.OpenCompletesPhaseByPhase := by
  intro s channel pullUp bs later
  refine ⟨fun hp => ?build, fun ha => ⟨fun hp => ?enter, fun hp => ?write, fun hp => ?flush1⟩⟩
  case build => rw [exec_openBus_build hp, openBatch_eq]
  case enter =>
    rw [exec_openBus_enter hp, interact_ok ha rfl, State.succeeded_of_silent rfl]
    rfl
  case write =>
    rw [exec_openBus_write hp, interact_ok ha rfl, State.issued_eq]
    rfl
  case flush1 =>
    rw [exec_openBus_flush1 hp, interact_ok ha rfl, State.succeeded_of_silent rfl]
    rfl

/-- Settles O28, by the two answers to CLOSE's one interaction. -/
theorem closeClearsTheMasksWhateverTheAnswer : Obligations.CloseClearsTheMasksWhateverTheAnswer :=
  fun _ _ hp => ⟨fun _ ha => exec_closeBus_succeeds hp ha, fun ha => ⟨_, _, _, _, exec_closeBus_fails hp ha⟩⟩

end Sys2Proof.Machine
end

section
/-! PROOFS. What keeps the machine going: no meaning stops on its path, no step where the invariant holds
(60_exceptions.md R310); and which waiting request is admitted, which refused (R306). -/

namespace Sys2Proof.Machine

variable {s : State} {i : Instr}

/-! ## No meaning stops -/

/-- While a run of whole commands is on the outbound stream, the adapter executes the first of them (R85, R115). -/
theorem step_of_commandStream (h : CommandStream s.outStream) (ho : s.outStream ≠ []) :
    ∃ rest adapter draws, step s = .next { s with outStream := rest, adapter := adapter, draws := draws } ∧
      CommandStream rest ∧ rest.length < s.outStream.length := by
  obtain ⟨_ | ⟨c, cs⟩, hcs, hser⟩ := h
  · exact absurd hser ho
  · obtain ⟨hc, hrest⟩ := List.forall_mem_cons.mp hcs
    obtain ⟨hcommand, hwf⟩ := emittable_command hc
    have hread : commandAt s.outStream = some (c, ser cs) := by
      rw [hser]
      exact commandAt_of_decode (decode_encode_command hcommand hwf _) hcommand
    obtain ⟨adapter, draws, hexec⟩ := exec_command hcommand { s with outStream := ser cs }
    refine ⟨ser cs, adapter, draws, (step_command hread).trans hexec, ⟨cs, hrest, rfl⟩, ?_⟩
    have hpos : 0 < (encode c).length := List.length_pos_of_ne_nil (encode_ne_nil c)
    rw [hser, ser_cons, List.length_append]
    omega

/-- At `READY` a request is taken or refused, and either is a next state (R306). -/
theorem exec_ready_goes_on (hi : i.isRequest = true) (hp : s.phase = .ready) : ∃ t, exec i s = .next t := by
  rw [exec_ready hi hp]
  split
  · exact ⟨_, rfl⟩
  · exact ⟨_, rfl⟩

/-- An interaction answers a next state, whatever the transport does (R310, R351). -/
theorem interact_goes_on (i : Instr) (ix : Interaction) (onOk : List Byte → State → State) (onErr : State → State)
    (s : State) : ∃ t, interact i ix onOk onErr s = .next t := by
  obtain ⟨-, h⟩ | ⟨_, _, _, -, -, h⟩ | ⟨_, _, -, -, h⟩ := interact_cases i ix onOk onErr s <;> exact ⟨_, h⟩

/-- In every phase of its path a request answers a next state (R39, R310). -/
theorem exec_onPath_goes_on (hp : s.phase ∈ pathOf i) : ∃ t, exec i s = .next t := by
  obtain ⟨ix, hx⟩ | ⟨hb, channel, pullUp, rfl⟩ | ⟨addr, w, rlen, rfl, hb | hv | hc⟩ | hd := onPath_cases hp
  · rw [exec_interaction hx]
    exact interact_goes_on _ _ _ _ _
  · exact ⟨_, exec_openBus_build hb⟩
  · exact ⟨_, exec_transact_build hb⟩
  · rw [exec_transact_validate hv]
    split
    · exact ⟨_, rfl⟩
    · exact ⟨_, rfl⟩
  · exact ⟨_, exec_transact_copy hc⟩
  · exact ⟨_, exec_done (isRequest_of_mem_pathOf hp) hd⟩

/-- With `LOCK` free and nothing on the outbound stream, a block at `READY` waits, or takes or refuses a request
(R250, R340). -/
theorem step_ready_goes_on (ho : s.outStream = []) (hp : s.phase = .ready) (hl : s.lock = .free) :
    ∃ t, step s = .next t := by
  cases hw : s.waitq[s.pick]? with
  | none => exact ⟨s, step_of_waits ⟨ho, hp, fun _ => hw⟩⟩
  | some w =>
    rw [step_serve ho hp hl hw]
    cases hq : requestOf w.frame with
    | none => exact ⟨_, rfl⟩
    | some i => exact exec_ready_goes_on (requestOf_isRequest hq).1 hp

/-- With a phase other than `READY`, the invariant has a request in service (R38, R45). -/
theorem StateInv.exists_req (h : StateInv s) (hp : s.phase ≠ .ready) : ∃ i, s.req = some i :=
  Option.ne_none_iff_exists'.mp (mt h.ready_noReq.mpr hp)

/-- Every state that meets the invariant has a next state (R310). -/
theorem StateInv.goes_on (h : StateInv s) : ∃ t, Machine.step s = .next t := by
  by_cases ho : s.outStream = []
  · by_cases hp : s.phase = .ready
    · exact step_ready_goes_on ho hp (h.ready_free.mp hp)
    · obtain ⟨i, hr⟩ := h.exists_req hp
      rw [step_service ho hp hr]
      exact exec_onPath_goes_on (h.onPath i hr).1
  · obtain ⟨_, _, _, hstep, -⟩ := step_of_commandStream h.stream ho
    exact ⟨_, hstep⟩

/-! ## Refusal and admission -/

/-- A chosen frame that holds no request `CFG` admits is refused (R306, R108, R102). -/
theorem step_refuses {w : Waiting} (ho : s.outStream = []) (hp : s.phase = .ready) (hl : s.lock = .free)
    (hw : s.waitq[s.pick]? = some w) (hq : ∀ i, requestOf w.frame = some i → admits s.cfg i = false) :
    step s = .next (s.present s.pick w.requester).refuse := by
  rw [step_serve ho hp hl hw]
  cases hi : requestOf w.frame with
  | none => rfl
  | some i =>
    have hready := exec_ready (s := s.present s.pick w.requester) (requestOf_isRequest hi).1 hp
    exact hready.trans (if_neg (by simp [hq i hi]))

/-- A request is admitted when the conditions of the table of R306 hold for it. -/
theorem admits_of_conditions {cfg : Bool} (hi : i.isRequest = true)
    (hopen : ∀ channel pullUp, i = .openBus channel pullUp → cfg = false)
    (hspeed : ∀ freq, i = .setSpeed freq → cfg = true)
    (htransact : ∀ addr w rlen, i = .transact addr w rlen → cfg = true ∧ addr.toNat ≤ 0x7F) :
    admits cfg i = true := by
  cases i with
  | openBus channel pullUp => rw [admits_openBus, hopen _ _ rfl]; rfl
  | setSpeed freq => exact hspeed _ rfl
  | transact addr w rlen => exact admits_transact.mpr (htransact _ _ _ rfl)
  | closeBus | clockPin | dataPin => rfl
  | setPins | shiftOut | shiftIn | setDivisor => cases hi

end Sys2Proof.Machine
end

section
/-! PROOFS. What a meaning leaves behind: the end by a failure, the interaction and the completion it can bring about
(60_exceptions.md R304, R305, R309), and the records, which only grow (R79, R306). -/

namespace Sys2Proof.Machine

variable {s t u : State} {i : Instr} {ix : Interaction} {j k : Nat}

/-! ## The end by a failure -/

/-- A failure that is not a write's adds no traffic (R80). -/
theorem Adapter.afterFailure_trace_of_ne_txWrite (a found : Adapter) (i : Instr) (h : ∀ bytes, ix ≠ .txWrite bytes) :
    (a.afterFailure found i ix).trace = a.trace := by
  unfold Adapter.afterFailure
  cases losesConfiguration i <;> cases ix
  case false.txWrite bytes => exact absurd rfl (h bytes)
  case true.txWrite bytes => exact absurd rfl (h bytes)
  all_goals rfl

/-- A failed interaction of a TRANSACT leaves the adapter's clock and its mode (R164, R255). -/
theorem afterFailure_of_transact {addr : U16} {w : List Byte} {rlen : Nat} (a found : Adapter)
    (hx : s.interaction (.transact addr w rlen) = some ix) :
    (a.afterFailure found (.transact addr w rlen) ix).clock = a.clock ∧
      (a.afterFailure found (.transact addr w rlen) ix).i2cMode = a.i2cMode := by
  refine ⟨Adapter.afterFailure_transact_clock _ _ _ _ _ fun v => ?_, Adapter.afterFailure_transact_mode _ _ _ _ _ _⟩
  cases makes_of_interaction hx <;> simp

/-- An answer that fails the interaction of the present phase ends the request (R304, R309), CLOSE with its masks
cleared (R256). -/
theorem exec_fails {a : Answer} {later : List Answer} (hx : s.interaction i = some ix) (ha : s.answers = a :: later)
    (hf : a.fails ix) :
    exec i s = .next { s with
      phase := .done, cpl := some ⟨.transportError, errorData i⟩, batch := [], rcount := 0, rdlen := 0, resp := []
      cfg := if i = .closeBus then false else s.cfg
      dir := if i = .closeBus then 0x00#8 else s.dir
      val := if i = .closeBus then 0x00#8 else s.val
      awaiting := false, answers := later, history := s.historyWith ix, draws := s.draws + 1
      adapter := s.adapter.afterFailure (Config.adapterAfterFailure s.ident s.draws) i ix } := by
  rw [exec_interaction hx, interact_err ha (Answer.reply_none.mpr hf), State.issued_eq]
  cases i <;> rfl

/-! ## The interaction of a phase in the history -/

theorem historyWith_cases (s : State) (ix : Interaction) :
    s.historyWith ix = s.history ∨ s.historyWith ix = s.history ++ [⟨s.serial, ix⟩] := by
  unfold State.historyWith
  split
  · exact .inl rfl
  · exact .inr rfl

/-- In service, the history stays, or takes up the interaction of the phase once (R79, R351). -/
theorem Served.history (hs : Served i s t) :
    t.history = s.history ∨ ∃ ix, s.interaction i = some ix ∧ t.history = s.historyWith ix := by
  cases hs with
  | @holds ix hx => exact .inr ⟨ix, hx, s.issued_history_with ix⟩
  | @succeeds ix a later bs hx _ _ =>
    obtain ⟨_, _, _, _, _, _, heq⟩ := afterSuccess_eq ({ s.issued ix with answers := later }.succeeded ix) i s.phase bs
    rw [heq]
    exact .inr ⟨ix, hx, s.issued_history_with ix⟩
  | @fails ix a later hx _ _ =>
    obtain ⟨_, _, _, heq⟩ := afterError_eq ({ s.issued ix with answers := later }.failed i ix) i
    rw [heq]
    exact .inr ⟨ix, hx, s.issued_history_with ix⟩
  | builds =>
    rw [build_eq]
    exact .inl rfl
  | buildsOpen | nak | acked | copies | released => exact .inl rfl

/-- A meaning adds at most one interaction to the history: the one its phase makes (R304). -/
theorem exec_history (he : exec i s = .next t) :
    t.history = s.history ∨ ∃ ix, s.interaction i = some ix ∧ t.history = s.history ++ [⟨s.serial, ix⟩] := by
  obtain ⟨hi, hp⟩ | ⟨-, hs⟩ | hc := exec_cases he
  · rw [exec_ready hi hp] at he
    split at he <;> cases he <;> exact .inl rfl
  · obtain hsame | ⟨ix, hx, hwith⟩ := hs.history
    · exact .inl hsame
    · rw [hwith]
      exact (historyWith_cases s ix).imp_right fun hadds => ⟨ix, hx, hadds⟩
  · obtain ⟨_, _, he'⟩ := exec_command hc s
    cases he'.symm.trans he
    exact .inl rfl

/-! ## The completion -/

/-- In service, the completion stays, or is delivered, or becomes one the request can return (R305). -/
theorem Served.cpl (hs : Served i s t) :
    t.cpl = s.cpl ∨ t.cpl = none ∨ ∃ c, t.cpl = some c ∧ canReturn i c.status = true := by
  cases hs with
  | @holds ix hx => exact .inl (s.issued_cpl ix)
  | @succeeds ix a later bs hx _ _ =>
    have hissued := s.issued_cpl ix
    cases makes_of_interaction hx with
    | openFlush hp | setSpeed hp | close hp =>
      rw [hp]
      exact .inr (.inr ⟨_, rfl, rfl⟩)
    | openEnter hp | openWrite hp | flush0 hp | write hp | flush1 hp | read hp =>
      rw [hp]
      exact .inl hissued
  | fails hx =>
    cases makes_of_interaction hx with
    | close | openEnter | openWrite | openFlush | setSpeed | flush0 | write | flush1 | read =>
      exact .inr (.inr ⟨_, rfl, rfl⟩)
  | builds =>
    rw [build_eq]
    exact .inl rfl
  | buildsOpen | acked => exact .inl rfl
  | nak hi => exact .inr (.inr ⟨_, rfl, by rw [hi]; rfl⟩)
  | copies hi => exact .inr (.inr ⟨_, rfl, by rw [hi]; rfl⟩)
  | released => exact .inr (.inl rfl)

/-- A completion that a meaning brings about is a request's, with a status it can return (R305). -/
theorem canReturn_of_exec {c : Completion} (he : exec i s = .next t) (hnone : s.cpl = none) (hc : t.cpl = some c) :
    canReturn i c.status = true := by
  obtain ⟨hi, hp⟩ | ⟨-, hs⟩ | hcommand := exec_cases he
  · rw [exec_ready hi hp] at he
    split at he <;> cases he
    · obtain ⟨-, -, -, hreturns⟩ := entry_spec hi
      exact hreturns c hc
    · cases hnone.symm.trans hc
  · obtain hsame | hnone' | ⟨d, hd, hreturns⟩ := hs.cpl
    · cases hnone.symm.trans (hsame.symm.trans hc)
    · cases hnone'.symm.trans hc
    · cases hd.symm.trans hc
      exact hreturns
  · obtain ⟨_, _, he'⟩ := exec_command hcommand s
    cases he'.symm.trans he
    cases hnone.symm.trans hc

/-- The table of R305, by status: which instructions can return it. -/
theorem statuses_of_canReturn {st : Status} (h : canReturn i st = true) :
    i.isRequest = true ∧
    (st = .outOfRange → ∃ freq, i = .setSpeed freq) ∧
    (st = .unsupported → ∃ channel pullUp, i = .openBus channel pullUp) ∧
    (st = .nakReceived → ∃ addr w rlen, i = .transact addr w rlen) ∧
    (st = .transportError → i ≠ .clockPin ∧ i ≠ .dataPin) := by
  cases i <;> cases st <;> simp [canReturn, Instr.isRequest] at h ⊢

/-! ## The records -/

/-- The records of `t` continue those of `s`: its history and deliveries, and a refused mark that stays (R79, R306). -/
def State.recordsGrow (s t : State) : Prop :=
  s.history <+: t.history ∧ s.delivered <+: t.delivered ∧ (s.refused = true → t.refused = true)

theorem State.recordsGrow.refl (s : State) : s.recordsGrow s := ⟨List.prefix_rfl, List.prefix_rfl, id⟩

theorem State.recordsGrow.trans (h : s.recordsGrow t) (h' : t.recordsGrow u) : s.recordsGrow u := by
  obtain ⟨hhistory, hdelivered, hrefused⟩ := h
  obtain ⟨hhistory', hdelivered', hrefused'⟩ := h'
  exact ⟨hhistory.trans hhistory', hdelivered.trans hdelivered', hrefused' ∘ hrefused⟩

/-- The requester whose request is in service, the deliveries and the refused mark are the same. -/
def State.sameDeliveries (s t : State) : Prop :=
  t.caller = s.caller ∧ t.delivered = s.delivered ∧ t.refused = s.refused

/-- In service, nothing is delivered, and no request refused, before the release (R239). -/
theorem Served.deliveries (hs : Served i s t) : s.sameDeliveries t ∨ s.phase = .done ∧ t = s.release := by
  cases hs with
  | @holds ix hx => exact .inl ⟨s.issued_caller ix, s.issued_delivered ix, s.issued_refused ix⟩
  | @succeeds ix a later bs hx _ _ =>
    obtain ⟨_, _, _, _, _, _, heq⟩ := afterSuccess_eq ({ s.issued ix with answers := later }.succeeded ix) i s.phase bs
    rw [heq]
    exact .inl ⟨s.issued_caller ix, s.issued_delivered ix, s.issued_refused ix⟩
  | @fails ix a later hx _ _ =>
    obtain ⟨_, _, _, heq⟩ := afterError_eq ({ s.issued ix with answers := later }.failed i ix) i
    rw [heq]
    exact .inl ⟨s.issued_caller ix, s.issued_delivered ix, s.issued_refused ix⟩
  | builds =>
    rw [build_eq]
    exact .inl ⟨rfl, rfl, rfl⟩
  | buildsOpen | nak | acked | copies => exact .inl ⟨rfl, rfl, rfl⟩
  | released hp => exact .inr ⟨hp, rfl⟩

/-- A meaning only adds to the history. -/
theorem history_prefix_of_exec (he : exec i s = .next t) : s.history <+: t.history := by
  obtain h | ⟨_, -, h⟩ := exec_history he <;> rw [h]
  exact List.prefix_append _ _

/-- A meaning only adds to the deliveries, and takes no refused mark away. -/
theorem deliveries_grow_of_exec (he : exec i s = .next t) :
    s.delivered <+: t.delivered ∧ (s.refused = true → t.refused = true) := by
  obtain ⟨hi, hp⟩ | ⟨-, hs⟩ | hc := exec_cases he
  · rw [exec_ready hi hp] at he
    split at he <;> cases he
    · exact ⟨List.prefix_rfl, id⟩
    · exact ⟨List.prefix_rfl, fun _ => rfl⟩
  · obtain ⟨-, hdelivered, hrefused⟩ | ⟨-, rfl⟩ := hs.deliveries
    · rw [hdelivered, hrefused]
      exact ⟨List.prefix_rfl, id⟩
    · exact ⟨List.prefix_append _ _, id⟩
  · obtain ⟨_, _, he'⟩ := exec_command hc s
    cases he'.symm.trans he
    exact ⟨List.prefix_rfl, id⟩

theorem recordsGrow_of_exec (he : exec i s = .next t) : s.recordsGrow t :=
  ⟨history_prefix_of_exec he, deliveries_grow_of_exec he⟩

/-- Every step only adds to the records. -/
theorem recordsGrow_of_step (hstep : step s = .next t) : s.recordsGrow t := by
  obtain ⟨c, rest, -, he⟩ | ⟨-, rfl⟩ | ⟨w, -, -, -, -, -, rfl⟩ | ⟨w, i, -, -, -, -, -, he⟩ | ⟨i, -, -, -, he⟩ :=
    step_cases hstep
  · exact recordsGrow_of_exec (s := { s with outStream := rest }) he
  · exact .refl _
  · exact ⟨List.prefix_rfl, List.prefix_rfl, fun _ => rfl⟩
  · exact recordsGrow_of_exec (s := s.present s.pick w.requester) he
  · exact recordsGrow_of_exec he

/-- Every run only adds to the records. -/
theorem recordsGrow_of_reaches (h : Reaches s k t) : s.recordsGrow t := by
  induction k generalizing s with
  | zero => cases h; exact .refl _
  | succ k ih =>
    obtain ⟨u, hstep, hrest⟩ := reaches_succ_iff.mp h
    exact (recordsGrow_of_step hstep).trans (ih hrest)

/-- A run of `j + k` steps is a run of `j` and then one of `k`. -/
theorem reaches_add (h : Reaches s (j + k) t) : ∃ u, Reaches s j u ∧ Reaches u k t := by
  induction j generalizing s with
  | zero => exact ⟨s, reaches_zero s, by rwa [Nat.zero_add] at h⟩
  | succ j ih =>
    rw [Nat.succ_add] at h
    obtain ⟨v, hstep, hrest⟩ := reaches_succ_iff.mp h
    obtain ⟨u, hfirst, hlast⟩ := ih hrest
    exact ⟨u, reaches_succ hstep hfirst, hlast⟩

end Sys2Proof.Machine
end

section
/-! PROOFS. How far a request in service is from its end: the phases ahead of it on its path, the answers they take and
the bytes they write (10_state.md R39), each less after every step that does not wait. -/

namespace Sys2Proof.Machine

variable {s t : State} {i : Instr} {p : Phase} {n : Nat}

/-! ## The phases ahead -/

/-- The phases of the path of `i` from `p` on (R39). -/
def phasesFrom (i : Instr) (p : Phase) : List Phase := (pathOf i).dropWhile (· ≠ p)

/-- On the path, the phases from `p` on are `p` and those after it. -/
theorem phasesFrom_eq_cons (hp : p ∈ pathOf i) : phasesFrom i p = p :: (phasesFrom i p).tail := by
  have hne : phasesFrom i p ≠ [] := by simpa [phasesFrom, List.dropWhile_eq_nil_iff] using hp
  have hhead : (phasesFrom i p).head hne = p := by
    simpa [phasesFrom] using List.head_dropWhile_not (fun q => decide (q ≠ p)) hne
  calc phasesFrom i p = (phasesFrom i p).head hne :: (phasesFrom i p).tail := (List.cons_head_tail hne).symm
    _ = p :: (phasesFrom i p).tail := by rw [hhead]

/-- The phases from any phase on are an end of the path. -/
theorem phasesFrom_suffix (i : Instr) (p : Phase) : phasesFrom i p <:+ pathOf i := List.dropWhile_suffix _

/-- Short of `DONE`, `DONE` is the last of the phases still ahead. -/
theorem phasesFrom_done_suffix (hp : p ∈ pathOf i) (hd : p ≠ .done) :
    phasesFrom i .done <:+ (phasesFrom i p).tail := by
  cases i <;> cases p <;> simp [pathOf] at hp hd <;>
    exact List.isSuffixOf_iff_suffix.mp rfl

/-- `WRITE` is not ahead of itself: a request writes once (R231, R252). -/
theorem write_notMem_tail (i : Instr) : Phase.write ∉ (phasesFrom i .write).tail := by
  cases i <;> simp [phasesFrom, pathOf]

/-! ## One phase on -/

/-- A phase takes one answer exactly when it makes an interaction; with none ready, none is taken (R351). -/
theorem answers_of_exec (hp : s.phase ∈ pathOf i) (he : exec i s = .next t) :
    t.answers = if s.phase.interacts then s.answers.tail else s.answers := by
  obtain ⟨ix, hx⟩ | ⟨hb, channel, pullUp, rfl⟩ | ⟨addr, w, rlen, rfl, hb | hv | hc⟩ | hd := onPath_cases hp
  · rw [if_pos (interacts_of_interaction hx)]
    rw [exec_interaction hx] at he
    obtain ⟨ha, hh⟩ | ⟨a, later, bs, ha, -, hh⟩ | ⟨a, later, ha, -, hh⟩ := interact_cases i ix _ _ s <;>
      cases hh.symm.trans he
    · rw [State.issued_answers, ha]; rfl
    · obtain ⟨_, _, _, _, _, _, heq⟩ :=
        afterSuccess_eq ({ s.issued ix with answers := later }.succeeded ix) i s.phase bs
      rw [heq, ha]; rfl
    · obtain ⟨_, _, _, heq⟩ := afterError_eq ({ s.issued ix with answers := later }.failed i ix) i
      rw [heq, ha]; rfl
  · cases (exec_openBus_build hb).symm.trans he
    rw [hb]; rfl
  · cases (exec_transact_build hb).symm.trans he
    rw [hb, build_eq]; rfl
  · rw [exec_transact_validate hv] at he
    rw [hv]
    split at he <;> cases he <;> rfl
  · cases (exec_transact_copy hc).symm.trans he
    rw [hc]; rfl
  · cases (exec_done (isRequest_of_mem_pathOf hp) hd).symm.trans he
    rw [hd]; rfl

/-- Short of `DONE`, a phase that does not wait for its answer leaves some of the phases after it ahead (R39, R309). -/
theorem Served.phasesFrom_suffix (hs : Served i s t) (hp : s.phase ∈ pathOf i) (hd : s.phase ≠ .done)
    (hanswer : s.phase.interacts = true → t.answers ≠ s.answers) :
    phasesFrom i t.phase <:+ (phasesFrom i s.phase).tail := by
  have hends := phasesFrom_done_suffix hp hd
  cases hs with
  | @holds ix hx => exact absurd (s.issued_answers ix) (hanswer (interacts_of_interaction hx))
  | succeeds hx =>
    cases makes_of_interaction hx with
    | openFlush hlast | setSpeed hlast | close hlast =>
      rw [hlast] at hends ⊢
      exact hends
    | openEnter hphase | openWrite hphase | flush0 hphase | write hphase | flush1 hphase | read hphase =>
      rw [hphase]
      exact List.suffix_refl _
  | @fails ix a later hx =>
    obtain ⟨_, _, _, heq⟩ := afterError_eq ({ s.issued ix with answers := later }.failed i ix) i
    rw [heq]
    exact hends
  | buildsOpen hi hb | builds hi hb | acked hi hb =>
    rw [hb, hi]
    exact List.suffix_refl _
  | nak | copies => exact hends
  | released hdone => exact absurd hdone hd

/-! ## The bytes still to write -/

/-- In service, the outbound stream stays, or takes up the batch in `WRITE` (R231, R252). -/
theorem Served.outStream (hs : Served i s t) :
    t.outStream = s.outStream ∨ s.phase = .write ∧ t.outStream = s.outStream ++ ser s.batch := by
  by_cases hb : s.phase.afterBuild = true
  · exact (hs.batch hb).2
  left
  cases hs with
  | @holds ix hx => exact s.issued_outStream ix
  | @succeeds ix a later bs hx _ _ =>
    obtain ⟨_, _, _, _, _, _, heq⟩ := afterSuccess_eq ({ s.issued ix with answers := later }.succeeded ix) i s.phase bs
    obtain hw | ⟨hp, -⟩ := written_of_interaction hx
    · rw [heq]
      simp [hw]
    · exact absurd (by rw [hp]; rfl) hb
  | @fails ix a later hx _ _ =>
    obtain ⟨_, _, _, heq⟩ := afterError_eq ({ s.issued ix with answers := later }.failed i ix) i
    rw [heq]
    exact s.issued_outStream ix
  | builds => rw [build_eq]
  | buildsOpen | nak | acked | copies | released => rfl

/-- The size of the batch depends on the request and the directions alone (R194, R220). -/
theorem batchBytes_congr (hr : t.req = s.req) (hd : t.dir = s.dir) : t.batchBytes = s.batchBytes := by
  unfold State.batchBytes
  rw [hr]
  split
  case h_1 addr w rlen _ => rw [hd, (build_batch addr w rlen s.dir t s).1]
  all_goals rfl

/-- The size of the batch stays the same while the request is in service (R89, R220). -/
theorem Served.batchBytes (hs : Served i s t) (hr : s.req = some i) (htr : t.req = some i) :
    t.batchBytes = s.batchBytes := by
  obtain ⟨-, hdir, -⟩ | ⟨⟨_, _, rfl⟩, -⟩ | ⟨rfl, -⟩ := hs.masks
  · exact batchBytes_congr (htr.trans hr.symm) hdir
  · rw [State.batchBytes, State.batchBytes, hr, htr]
  · rw [State.batchBytes, State.batchBytes, hr, htr]

/-- In `WRITE` the batch written is the request's whole batch (R231, R252). -/
theorem StateInv.length_ser_batch (h : StateInv s) (hr : s.req = some i) (hp : s.phase = .write) :
    (ser s.batch).length = s.batchBytes := by
  have hbatch := h.holdsBatch hr (by rw [hp]; rfl)
  obtain ⟨hpath, -⟩ := h.onPath i hr
  unfold State.batchBytes
  rw [hr]
  cases i with
  | transact addr w rlen => exact congrArg (fun b => (ser b).length) hbatch.1
  | openBus channel pullUp => exact congrArg (fun b => (ser b).length) hbatch
  | _ => simp [hp, pathOf] at hpath

/-- The bytes of the batch while the write is ahead. -/
def State.bytesAhead (s : State) (i : Instr) : Nat := if .write ∈ phasesFrom i s.phase then s.batchBytes else 0

theorem bytesAhead_congr (hr : t.req = s.req) (hd : t.dir = s.dir) (hp : t.phase = s.phase) :
    t.bytesAhead i = s.bytesAhead i := by
  rw [State.bytesAhead, State.bytesAhead, hp, batchBytes_congr hr hd]

/-- A phase that goes on puts no more on the outbound stream than it takes from the bytes ahead. -/
theorem StateInv.bytes_le (h : StateInv s) (hr : s.req = some i) (htr : t.req = some i) (hs : Served i s t)
    (hsuffix : phasesFrom i t.phase <:+ (phasesFrom i s.phase).tail) :
    t.outStream.length + t.bytesAhead i ≤ s.outStream.length + s.bytesAhead i := by
  have hmono : t.bytesAhead i ≤ s.bytesAhead i := by
    unfold State.bytesAhead
    rw [hs.batchBytes hr htr]
    split_ifs with ht hnot
    · exact le_rfl
    · exact absurd (List.mem_of_mem_tail (hsuffix.subset ht)) hnot
    · exact Nat.zero_le _
    · exact le_rfl
  obtain hsame | ⟨hp, hwrites⟩ := hs.outStream
  · rw [hsame]
    omega
  · rw [hp] at hsuffix
    have hnone : t.bytesAhead i = 0 := if_neg fun ht => write_notMem_tail i (hsuffix.subset ht)
    have hall : s.bytesAhead i = s.batchBytes := by
      refine if_pos ?_
      rw [phasesFrom_eq_cons (h.onPath i hr).1, hp]
      exact List.mem_cons_self
    rw [hwrites, List.length_append, h.length_ser_batch hr hp, hnone, hall]
    omega

/-! ## The steps left -/

/-- A bound on the steps left to a request in service when no answer is waited for: one for each byte to execute, since
no command is shorter than a byte, and one for each phase ahead. -/
def State.stepsLeft (s : State) (i : Instr) : Nat :=
  s.outStream.length + s.bytesAhead i + (phasesFrom i s.phase).length

/-- The answers the phases ahead take. -/
def State.answersDue (s : State) (i : Instr) : Nat := (phasesFrom i s.phase).countP Phase.interacts

theorem answersDue_eq (hp : s.phase ∈ pathOf i) :
    s.answersDue i = (phasesFrom i s.phase).tail.countP Phase.interacts + if s.phase.interacts then 1 else 0 := by
  rw [State.answersDue, phasesFrom_eq_cons hp, List.countP_cons, List.tail_cons]

/-- At most 8 phases are ahead, and the batch is written once (R39, R231). -/
theorem stepsLeft_le (s : State) (i : Instr) : s.stepsLeft i ≤ s.outStream.length + s.batchBytes + 8 := by
  have hbytes : s.bytesAhead i ≤ s.batchBytes := by
    unfold State.bytesAhead
    split_ifs <;> omega
  have hpath : (pathOf i).length ≤ 8 := by cases i <;> simp [pathOf]
  have hphases := (phasesFrom_suffix i s.phase).length_le
  unfold State.stepsLeft
  omega

/-- At most 4 answers are due (R39). -/
theorem answersDue_le (s : State) (i : Instr) : s.answersDue i ≤ 4 :=
  have hpath : (pathOf i).countP Phase.interacts ≤ 4 := by
    cases i <;> simp [pathOf, Phase.interacts, List.countP_cons]
  (phasesFrom_suffix i s.phase).sublist.countP_le.trans hpath

/-! ## Each step comes closer -/

/-- The request in service is the same, of the same requester, `WAITQ` is as it was, and nothing has been delivered
meanwhile. -/
def State.sameService (s t : State) : Prop := t.req = s.req ∧ t.waitq = s.waitq ∧ s.sameDeliveries t

/-- The step of `s` leads to `t`, with the request `i` closer to its end and the answers it takes ready. -/
def State.closer (s t : State) (i : Instr) : Prop :=
  step s = .next t ∧ s.sameService t ∧ t.answersDue i ≤ t.answers.length ∧ t.stepsLeft i < s.stepsLeft i

/-- A command executed is a step closer (R85). -/
theorem StateInv.command_closer (h : StateInv s) (hdue : s.answersDue i ≤ s.answers.length) (ho : s.outStream ≠ []) :
    ∃ t, s.closer t i := by
  obtain ⟨rest, adapter, draws, hstep, -, hlt⟩ := step_of_commandStream h.stream ho
  refine ⟨_, hstep, ⟨rfl, rfl, rfl, rfl, rfl⟩, hdue, ?_⟩
  have hbytes : State.bytesAhead { s with outStream := rest, adapter := adapter, draws := draws } i = s.bytesAhead i :=
    bytesAhead_congr rfl rfl rfl
  rw [State.stepsLeft, State.stepsLeft, hbytes]
  change rest.length + s.bytesAhead i + (phasesFrom i s.phase).length < _
  omega

/-- A phase short of `DONE`, with its answer ready, is a step closer (R39). -/
theorem StateInv.phase_closer (h : StateInv s) (hr : s.req = some i) (hdue : s.answersDue i ≤ s.answers.length)
    (ho : s.outStream = []) (hd : s.phase ≠ .done) : ∃ t, s.closer t i := by
  obtain ⟨hp, -⟩ := h.onPath i hr
  obtain ⟨t, he⟩ := exec_onPath_goes_on hp
  have hs := served_of_exec hp he
  have hanswers := answers_of_exec hp he
  have hcount := answersDue_eq hp
  have hsuffix := hs.phasesFrom_suffix hp hd fun hx hsame => by
    rw [if_pos hx] at hanswers hcount
    have hlen := congrArg List.length (hanswers.symm.trans hsame)
    rw [List.length_tail] at hlen
    omega
  obtain ⟨hwaitq, ⟨-, hreq⟩ | ⟨hdone, -⟩⟩ := hs.lock
  swap
  · exact absurd hdone hd
  obtain hdeliveries | ⟨hdone, -⟩ := hs.deliveries
  swap
  · exact absurd hdone hd
  refine ⟨t, (step_service ho (h.ne_ready hr) hr).trans he, ⟨hreq, hwaitq, hdeliveries⟩, ?_, ?_⟩
  · have hle : t.answersDue i ≤ (phasesFrom i s.phase).tail.countP Phase.interacts := hsuffix.sublist.countP_le
    rw [hanswers]
    split_ifs at hcount ⊢
    · rw [List.length_tail]
      omega
    · omega
  · have hbytes := h.bytes_le hr (hreq.trans hr) hs hsuffix
    have hphases := hsuffix.length_le
    have hcons := congrArg List.length (phasesFrom_eq_cons hp)
    rw [List.length_cons] at hcons
    unfold State.stepsLeft
    omega

/-! ## The run to the end -/

/-- Within `n` steps the request in service ends: the block is at `READY` with `LOCK` free, `WAITQ` as it was, and one
completion delivered to the requester, with a status the request can return (R239, R305). -/
def State.finishesWithin (s : State) (n : Nat) : Prop :=
  ∃ k t c, k ≤ n ∧ Reaches s k t ∧ t.phase = .ready ∧ t.lock = .free ∧ t.waitq = s.waitq ∧
    t.delivered = s.delivered ++ [⟨s.caller, c⟩] ∧ ∀ i, s.req = some i → canReturn i c.status = true

theorem finishesWithin_mono {m : Nat} (h : s.finishesWithin m) (hm : m ≤ n) : s.finishesWithin n := by
  obtain ⟨k, t, c, hk, hend⟩ := h
  exact ⟨k, t, c, hk.trans hm, hend⟩

/-- A step within the service is one step more. -/
theorem finishesWithin_of_step (hstep : step s = .next t) (hsame : s.sameService t) (h : t.finishesWithin n) :
    s.finishesWithin (n + 1) := by
  obtain ⟨hreq, hwaitq, hcaller, hdelivered, -⟩ := hsame
  obtain ⟨k, u, c, hk, hrun, hready, hfree, hw, hd, hreturns⟩ := h
  rw [hcaller, hdelivered] at hd
  rw [hreq] at hreturns
  exact ⟨k + 1, u, c, Nat.succ_le_succ hk, reaches_succ hstep hrun, hready, hfree, hw.trans hwaitq, hd, hreturns⟩

/-- At `DONE`, with every command executed, the release ends the request (R239). -/
theorem StateInv.finishes_at_done (h : StateInv s) (hr : s.req = some i) (ho : s.outStream = [])
    (hd : s.phase = .done) : s.finishesWithin 1 := by
  obtain ⟨c, hc⟩ := Option.isSome_iff_exists.mp (h.done_cpl.mp hd)
  have hrelease := step_releases ho hd hr (isRequest_of_mem_pathOf (h.onPath i hr).1)
  refine ⟨1, _, c, le_rfl, reaches_succ hrelease (reaches_zero _), rfl, rfl, rfl, ?_, fun j hj => h.returns j c hj hc⟩
  rw [State.release_delivered, State.deliveries, hc]

/-- A request in service, with the answers it takes ready, ends within the steps left to it. -/
theorem StateInv.finishes (h : StateInv s) (hr : s.req = some i) (hdue : s.answersDue i ≤ s.answers.length) :
    s.finishesWithin (s.stepsLeft i) := by
  induction hn : s.stepsLeft i using Nat.strong_induction_on generalizing s with
  | _ n ih =>
    by_cases hlast : s.outStream = [] ∧ s.phase = .done
    · obtain ⟨ho, hd⟩ := hlast
      have hcons := congrArg List.length (phasesFrom_eq_cons (h.onPath i hr).1)
      rw [List.length_cons] at hcons
      refine finishesWithin_mono (h.finishes_at_done hr ho hd) ?_
      unfold State.stepsLeft at hn
      omega
    · obtain ⟨t, hstep, hsame, hdue', hlt⟩ : ∃ t, s.closer t i := by
        by_cases ho : s.outStream = []
        · exact h.phase_closer hr hdue ho fun hd => hlast ⟨ho, hd⟩
        · exact h.command_closer hdue ho
      have hrest := ih (t.stepsLeft i) (hn ▸ hlt) (h.step hstep) (hsame.1.trans hr) hdue' rfl
      exact finishesWithin_mono (finishesWithin_of_step hstep hsame hrest) (hn ▸ hlt)

end Sys2Proof.Machine
end

section
/-! PROOFS. The statements about exceptions: what ends a request, and what never happens (60_exceptions.md). -/

namespace Sys2Proof.Machine

/-- Settles O40, by `StateInv.goes_on`. -/
theorem machineNeverStops : Obligations.MachineNeverStops :=
  fun _ h => h.goes_on

/-- Settles O24: in each of its cases the frame holds no request that `CFG` admits (`step_refuses`). -/
theorem refusedRequestHasNoEffect : Obligations.RefusedRequestHasNoEffect := by
  intro s w ho hp hl hw hcases
  refine step_refuses ho hp hl hw fun i hi => ?_
  obtain hq | ⟨_, _, hq, hcfg⟩ | ⟨_, hq, hcfg⟩ | ⟨_, _, _, hq, hbad⟩ := hcases <;> cases hq.symm.trans hi
  · rw [admits_openBus, hcfg]; rfl
  · exact hcfg
  · refine Bool.eq_false_iff.mpr fun hadmits => ?_
    obtain ⟨hcfg, haddr⟩ := admits_transact.mp hadmits
    obtain hnot | hbig := hbad
    · cases hcfg.symm.trans hnot
    · omega

/-- Settles O26: an admitted request enters its path (`exec_ready`), where `entry` says. -/
theorem admittedRequestTakesTheLock : Obligations.AdmittedRequestTakesTheLock := by
  intro s i hp hi hopen hspeed htransact
  have hadmits := admits_of_conditions hi hopen hspeed htransact
  refine ⟨(entry i).1, (entry i).2, (exec_ready hi hp).trans (if_pos hadmits), ?_⟩
  cases i <;> rfl

/-- Settles O33: the failing answer ends the request (`exec_fails`); what is left of the adapter is
`Adapter.afterFailure`. -/
theorem failedInteractionEndsTheRequest : Obligations.FailedInteractionEndsTheRequest := by
  intro s i a later _ hpath hinteracts ha
  obtain ⟨ix, _, hx, -⟩ := exec_interacts hpath hinteracts
  refine ⟨ix, hx, fun hf => ⟨s.adapter.afterFailure (Config.adapterAfterFailure s.ident s.draws) i ix,
    (exec_fails hx ha hf).trans ?_, Adapter.afterFailure_trace _ _ _ _,
    Adapter.afterFailure_trace_of_ne_txWrite _ _ _, fun addr w rlen hi => ?_, fun freq hi => ?_⟩⟩
  · cases i <;> rfl
  · subst hi
    exact afterFailure_of_transact _ _ hx
  · subst hi
    cases makes_of_interaction hx
    exact Adapter.afterFailure_setSpeed _ _ _ _

/-- Settles O43: the completion has a status the instruction can return (`canReturn_of_exec`). -/
theorem statusesOfEachRequest : Obligations.StatusesOfEachRequest :=
  fun _ _ _ _ he hnone hc => statuses_of_canReturn (canReturn_of_exec he hnone hc)

/-- Settles O44: the interaction added is the one the phase makes (`exec_history`). -/
theorem interactionsOfEachRequest : Obligations.InteractionsOfEachRequest := by
  intro i s t he
  refine (exec_history he).imp_right fun ⟨ix, hx, hadds⟩ => ⟨ix, hadds, ?_⟩
  cases makes_of_interaction hx with
  | openEnter => exact .inl rfl
  | openWrite => exact .inr (.inl ⟨_, rfl⟩)
  | openFlush => exact .inr (.inr rfl)
  | setSpeed => rfl
  | flush0 | flush1 => exact .inl rfl
  | write => exact .inr (.inl ⟨_, rfl⟩)
  | read => exact .inr (.inr ⟨_, rfl⟩)
  | close => rfl

/-- Settles O47, by `recordsGrow_of_step`. -/
theorem recordsOnlyGrow : Obligations.RecordsOnlyGrow :=
  fun _ _ => recordsGrow_of_step

/-- Settles O48: the run is cut in two (`reaches_add`), and a mark at the cut would stay to its end
(`recordsGrow_of_reaches`). -/
theorem cleanRunsAreCleanThroughout : Obligations.CleanRunsAreCleanThroughout := by
  rintro s t j k ⟨hrun, hclean⟩ hjk
  obtain ⟨u, hfirst, hlast⟩ := reaches_add (j := j) (k := k - j) (by rwa [Nat.add_sub_cancel' hjk])
  obtain ⟨-, -, hmark⟩ := recordsGrow_of_reaches hlast
  refine ⟨u, ⟨hfirst, Bool.eq_false_iff.mpr fun hu => ?_⟩, hlast⟩
  cases hclean.symm.trans (hmark hu)

/-- Settles O58: the request ends within the steps left to it (`StateInv.finishes`), of which there are at most 8 and
the bytes to execute. -/
theorem everyRequestInServiceFinishes : Obligations.EveryRequestInServiceFinishes := by
  intro s h hp ha
  obtain ⟨i, hr⟩ := h.exists_req hp
  have hsteps := stepsLeft_le s i
  exact finishesWithin_mono (h.finishes hr ((answersDue_le s i).trans ha)) (by omega)

end Sys2Proof.Machine
end

section
/-! PROOFS. The statements about waits that never end and about two requests that wait together
(70_reset_and_hazards.md R349, R351). -/

namespace Sys2Proof.Machine

variable {s : State}

/-- A request that waits alone is chosen, and none is left (R250). -/
theorem chosen_of_one {v : Waiting} (h : s.waitq = [v]) :
    s.waitq[s.pick]? = some v ∧ s.waitq.eraseIdx s.pick = [] := by
  rw [pick_of_one h, h]
  exact ⟨rfl, rfl⟩

/-- A TRANSACT chosen at rest while not configured is refused in one step (R306). -/
theorem reaches_transact_refused {r : Nat} {frame : List Byte} {addr : U16} {w : List Byte} {rlen : Nat} (hs : s.atRest)
    (hcfg : s.cfg = false) (hw : s.waitq[s.pick]? = some ⟨r, frame⟩)
    (hq : requestOf frame = some (.transact addr w rlen)) : Reaches s 1 (s.present s.pick r).refuse := by
  obtain ⟨hp, hl, ho, -⟩ := hs
  exact reaches_succ (refusedRequestHasNoEffect s ⟨r, frame⟩ ho hp hl hw
    (.inr (.inr (.inr ⟨addr, w, rlen, hq, .inl hcfg⟩)))) (reaches_zero _)

/-- Settles O34: with no answer the interaction of the phase is issued and nothing more (`interact_hold`), and it is
issued once (`State.issued`). -/
theorem unansweredInteractionHolds : Obligations.UnansweredInteractionHolds := by
  intro s i _ hpath hinteracts ha
  obtain ⟨ix, _, hx, hexec⟩ := exec_interacts hpath hinteracts
  have hissued : exec i s = .next (s.issued ix) := hexec.trans (interact_hold ha)
  exact ⟨ix, hx, fun hmade => by rw [hissued, State.issued, if_pos hmade],
    fun hnew => by rw [hissued, State.issued, if_neg (by simp [hnew])]⟩

/-- Settles O57. If the TRANSACT is chosen it runs to its completion and the CLOSE after it; if the CLOSE is chosen it
leaves the block not configured, so that the TRANSACT is refused (`reaches_transact_refused`). -/
theorem transactAndCloseInEitherOrder : Obligations.TransactAndCloseInEitherOrder := by
  intro s a b frame addr w rlen b0 b1 b2 response b3 hs hcfg hwaitq hq haddr ha hlen
  obtain ⟨hw, hleft⟩ | ⟨hw, hleft⟩ := pick_of_two hwaitq
  case inl =>
    obtain ⟨j, t, hst, ht, -, htw, hta, -, -, -, htrefused, -, hth, htd⟩ :=
      transactRunsToItsCompletion s a frame addr w rlen b0 b1 b2 response [.ok b3] hs hcfg hw hq haddr ha hlen
    obtain ⟨hchosen, hnone⟩ := chosen_of_one (htw.trans hleft)
    obtain ⟨u, htu, hu, -, huw, -, hurefused, hucfg, hudir, huval, huh, hud⟩ :=
      closeRunsAlikeTheSecondTime t b (.ok b3) [] ht hchosen hta
    rw [htd, List.append_assoc] at hud
    refine ⟨_, u, reaches_trans hst htu, hu, huw.trans hnone, hucfg, hudir, huval, ?_,
      .inl ⟨_, hud, hurefused.trans htrefused, apply_ite Completion.status _ _ _⟩⟩
    rw [huh, List.countP_append, hth, List.countP_append]
    rfl
  case inr =>
    obtain ⟨t, hst, ht, -, htw, -, -, htcfg, htdir, htval, hth, htd⟩ :=
      closeRunsAlikeTheSecondTime s b (.ok b0) _ hs hw ha
    obtain ⟨hchosen, hnone⟩ := chosen_of_one (htw.trans hleft)
    refine ⟨_, _, reaches_trans hst (reaches_transact_refused ht htcfg hchosen hq), ht, hnone, htcfg, htdir, htval, ?_,
      .inr ⟨htd, rfl⟩⟩
    show t.history.countP _ = _
    rw [hth, List.countP_append]
    rfl

end Sys2Proof.Machine
end
